-- ==== Sys2Proof/Word.lean ====
section
/-! DEFINITION. The word types of the ZT-4610 model: the bytes of a packet, the 8-byte aperture word,
the 44-bit system address and the 1 MiB block number. Bit-field and byte-order helpers stand in
Machine/Operands.lean. -/

namespace Sys2Proof

/-- One byte of a packet. -/
abbrev Byte := BitVec 8

/-- One 8-byte word of the management aperture (00_scope, Conventions, Aperture access). -/
abbrev Word := BitVec 64

/-- A 44-bit byte address (00_scope, Conventions, Addresses). -/
abbrev Addr := BitVec 44

/-- The number of a 1 MiB block, the window granule: an address's upper 24 bits (R48). -/
abbrev Block := BitVec 24

/-- A 16-bit wrapping counter value: the table generation, the fault sequence and the notification
sequence (R92, R168, R186). -/
abbrev Seq := BitVec 16

end Sys2Proof
end

