-- ==== Sys2Proof/Syntax.lean ====
section
/-! DEFINITION. The ports' names and the commands: one constructor of `Instr` for each row of
spec/opcode_table.json, in the table's order. A row that ends an aperture access carries no operand: the
access it ends (port, kind, tag, offset, value) is the one the management unit holds (R117, log entry 3). -/

namespace Sys2Proof

/-- H0 to H3. -/
abbrev HPort := Fin 4

/-- D0 to D5. -/
abbrev DPort := Fin 6

/-- ORT entries E0 to E127 (R123). -/
abbrev EntryIx := Fin 128

/-- Windows W0 to W31 (R45). -/
abbrev WinIx := Fin 32

/-- Interleave groups G0 to G3 (R45). -/
abbrev GroupIx := Fin 4

/-- One of the ten link ports. -/
inductive Port where
  /-- a host port -/
  | host (h : HPort)
  /-- a target port -/
  | target (d : DPort)
deriving DecidableEq, Repr

/-- The steps of the part (spec/opcode_table.json), each whole and indivisible. -/
inductive Instr where
  /-- COLD_RESET (R19): RESET_N or power-up, with the strap levels read at it. -/
  | coldReset (aps mgs : BitVec 2)
  /-- PARTNER_DETECTED (R20) -/
  | partnerDetected (p : Port)
  /-- TRAINING_SUCCEEDS (R21) -/
  | trainingSucceeds (p : Port)
  /-- TRAINING_FAILS (R21) -/
  | trainingFails (p : Port)
  /-- T_TRN_EXPIRY (R21) -/
  | tTrnExpiry (p : Port)
  /-- LINK_LOSS (R23) -/
  | linkLoss (p : Port)
  /-- LINK_PACKET_ARRIVAL (R13): the whole packet as the link delimits it. -/
  | linkPacketArrival (p : Port) (bytes : List Byte)
  /-- PARTNER_ACCEPTS_PACKET (R14) -/
  | partnerAcceptsPacket (p : Port)
  /-- HEAD_PRESENTED (R98) -/
  | headPresented (h : HPort)
  /-- LOCAL_ANSWER_PLACED (R109) -/
  | localAnswerPlaced (h : HPort)
  /-- MGMT_ANSWER_ENTERS (R117) -/
  | mgmtAnswerEnters (h : HPort)
  /-- ISOLATED_HOST_HEAD (R39) -/
  | isolatedHostHead (h : HPort)
  /-- ISOLATED_TARGET_HEAD (R40) -/
  | isolatedTargetHead (d : DPort)
  /-- COMPLETION_MATCH (R146) -/
  | completionMatch (d : DPort)
  /-- TRACKER_PACKET_PLACED (R155) -/
  | trackerPacketPlaced (h : HPort)
  /-- EXPIRY (R156) -/
  | expiry (e : EntryIx)
  /-- QUARANTINE_END (R138) -/
  | quarantineEnd (e : EntryIx)
  /-- ALERT_INTAKE (R179) -/
  | alertIntake (d : DPort)
  /-- NOTIFICATION_SEND (R186) -/
  | notificationSend
  /-- T_RNT_EXPIRY (R188) -/
  | tRntExpiry
  /-- NOTIFICATION_COPY_PLACED (R188) -/
  | notificationCopyPlaced
  /-- ACKNOWLEDGE (R187) -/
  | acknowledge
  /-- CHANNEL_ENABLE_WRITE (R190) -/
  | channelEnableWrite
  /-- SUPERVISOR_PORT_WRITE (R191) -/
  | supervisorPortWrite
  /-- APERTURE_BASE_WRITE (R195) -/
  | apertureBaseWrite
  /-- GRANT_SET_WRITE (R197) -/
  | grantSetWrite
  /-- STAGING_WRITE (R76) -/
  | stagingWrite
  /-- PORT_CONFIG_WRITE (R41) -/
  | portConfigWrite
  /-- FAULT_CLASS_WRITE (R165) -/
  | faultClassWrite
  /-- SETTING_WRITE (R196): a write to any other aperture word. -/
  | settingWrite
  /-- LATCHED_READ (R198): every aperture read, the one that fills the latch among them. -/
  | latchedRead
  /-- COMMIT (R80) -/
  | commit
  /-- RESEED_STAGING (R78) -/
  | reseedStaging
  /-- VALIDATION_COMPLETE (R79) -/
  | validationComplete
  /-- DRAIN_COMPLETE (R89) -/
  | drainComplete
  /-- T_DRN_EXPIRY (R90) -/
  | tDrnExpiry
  /-- PORT_ENABLE (R25) -/
  | portEnable
  /-- PORT_RETRAIN (R25) -/
  | portRetrain
  /-- PORT_RESET (R26) -/
  | portReset
  /-- PORT_DISABLE (R27) -/
  | portDisable
  /-- PORT_ISOLATE (R28) -/
  | portIsolate
  /-- PORT_RESTORE (R28) -/
  | portRestore
  /-- FAULT_POP (R171) -/
  | faultPop
  /-- SNAPSHOT_RELEASE (R173) -/
  | snapshotRelease
  /-- CHANNEL_REARM (R189) -/
  | channelRearm
  /-- BRIDGE_RESET (R201) -/
  | bridgeReset
  /-- UNKNOWN_COMMAND (R199) -/
  | unknownCommand
  /-- SELF_PORT_COMMAND_ACTION (R200) -/
  | selfPortCommandAction
  /-- WARM_RESET (R202) -/
  | warmReset
  /-- MALFORMED_APERTURE_ACCESS (R196) -/
  | malformedApertureAccess
deriving DecidableEq, Repr

end Sys2Proof
end

