-- ==== Sys2Proof/WellFormed.lean ====
section
/-! DEFINITION. Which commands are well-formed. Ports, entries and straps are in range by their types; what is left is
R1: a packet on the link is 20 to 276 bytes long. `exec` gives the others the meaning R1 states (INTEGRITY_ERROR). -/

namespace Sys2Proof

/-- The least size of a whole packet (R1). -/
def minPacketSize : Nat := 20

/-- The greatest size of a whole packet (R1). -/
def maxPacketSize : Nat := 276

/-- A command is well-formed: a packet it carries has a size of R1. -/
def Instr.wellFormed : Instr → Bool
  | .linkPacketArrival _ bytes => decide (minPacketSize ≤ bytes.length) && decide (bytes.length ≤ maxPacketSize)
  | _ => true

end Sys2Proof
end

