-- ==== Sys2Proof/Decode.lean ====
section
/-! DEFINITION. The command a word spells by the table's bits. No row of spec/opcode_table.json gives bits or fields, so
no word spells a command: the commands reach the queue from outside as they are (log entry 10). -/

namespace Sys2Proof

/-- The command that `nbits` bits `w` spell: none, since no row of the table gives bits. -/
def decodeTableWord (_nbits _w : Nat) : Option Instr := none

end Sys2Proof
end

