-- ==== Sys2Proof/Config.lean ====
section
/-! DEFINITION. What the ZT-4610 fixes once for the part: the capacities of its queues and lists and the
strap levels of the machine `State.reset`. The spec leaves no value of an effect open, so there is no
free value here. -/

namespace Sys2Proof.Config

/-- Capacity of every port's ingress queue: 16 packets (R13, R29). -/
def ingressCapacity : Nat := 16

/-- Capacity of a host port's egress queue: 32 packets (R29). -/
def hostEgressCapacity : Nat := 32

/-- Capacity of a target port's egress queue: 16 packets (R29). -/
def targetEgressCapacity : Nat := 16

/-- Records the fault queue holds (R169). -/
def faultQueueCapacity : Nat := 16

/-- Items the pending list holds (R184). -/
def pendingCapacity : Nat := 8

/-- The bound of the answer-room resource: host count plus answer-list items stay below it (R107). -/
def answerRoomBound : Nat := 128

/-- DESIGN CHOICE, unsafe (notes/assumptions/1): the APS straps of `State.reset`. A board ties them; COLD_RESET
carries any other level. -/
def resetAps : BitVec 2 := 0

/-- DESIGN CHOICE, unsafe (notes/assumptions/1): the MGS straps of `State.reset`. -/
def resetMgs : BitVec 2 := 0

end Sys2Proof.Config
end

