-- ==== Sys2Proof/Machine/State.lean ====
section
/-! DEFINITION. The state of the ZT-4610, block by block as 00_scope names its blocks, as plain data; the
fault and refusal types; and the state after cold reset. -/

namespace Sys2Proof.Machine

/-! ## Packets (chapter 1) -/

/-- The six packet kinds (R3 to R8). -/
inductive Kind where
  | rdq | wpq | waq | cpd | cps | alm
deriving DecidableEq, Repr

/-- The eight statuses (R7). -/
inductive Status where
  | ok | unmapped | denied | malformed | unreachable | aborted | expired | busy
deriving DecidableEq, Repr

/-- The severities of an alert (R8). -/
inductive Severity where
  | info | degraded | failing
deriving DecidableEq, Repr

/-- A packet: the header fields of R2 as the header carries them, and the payload. The integrity check is
computed at each sending and checked at each arrival (R10); a queued packet holds none. -/
structure Packet where
  /-- kind code; codes outside 1 to 6 name no kind -/
  kindCode : Byte := 0
  tag : Byte := 0
  length : BitVec 9 := 0
  offset : Byte := 0
  final : Bool := false
  /-- status code; codes above 7 name no status -/
  status : Byte := 0
  device : BitVec 4 := 0
  severity : BitVec 2 := 0
  address : Addr := 0
  payload : List Byte := []
deriving DecidableEq, Repr

/-! ## Port units (chapter 2) -/

/-- The six port states (R18). -/
inductive LinkState where
  | disabled | down | training | up | isolated | failed
deriving DecidableEq, Repr

/-- What every port unit holds (R18, R21, R29, R41). -/
structure PortUnit where
  state : LinkState
  /-- the attempt count (R21) -/
  attempts : Nat
  /-- t_TRN: the earliest moment of its expiry while it runs (R21, R42) -/
  tTrn : Option Nat
  /-- ingress queue, oldest first (R29) -/
  ingress : List Packet
  /-- egress queue, oldest first (R29) -/
  egress : List Packet
  /-- attempt limit, 1 to 4 (R41) -/
  attemptLimit : Nat
deriving DecidableEq, Repr

/-- The four producer classes of a host port's egress queue (R31). -/
inductive EgressClass where
  | localAnswer | management | tracker | notification
deriving DecidableEq, Repr

/-- A host port unit (R29, R31, R39, R41). -/
structure HostPort where
  link : PortUnit
  /-- the round-robin pointer over the producer classes (R31) -/
  classPtr : EgressClass
  /-- the port unit of an ISOLATED port waits for room for its UNREACHABLE answer (R39) -/
  isolatedWaits : Bool
  /-- host outstanding limit, 1 to 128 (R41) -/
  outstandingLimit : Nat
deriving DecidableEq, Repr

/-- A target port unit (R29, R41). -/
structure TargetPort where
  link : PortUnit
  /-- target outstanding limit, the value its code names: 1, 4, 16, 64 or 128 (R41) -/
  outstandingLimit : Nat
  /-- timeout code (R42) -/
  timeoutCode : Fin 8
  /-- alert threshold (R41) -/
  threshold : Severity
  /-- isolate-on-failing (R41) -/
  isolateOnFailing : Bool
deriving DecidableEq, Repr

/-! ## The banks (chapters 3 and 4) -/

/-- A window entry (R46), each field as its aperture bits hold it. -/
structure Window where
  valid : Bool := false
  base : Block := 0
  limit : Block := 0
  /-- precedence class, 0 to 3 -/
  level : BitVec 2 := 0
  readAllowed : Bool := false
  writeAllowed : Bool := false
  /-- bit h is set when the host set holds Hh -/
  hostSet : BitVec 4 := 0
  /-- PORT 0, GROUP 1, DISCARD 2; 3 names no kind -/
  destKind : BitVec 2 := 0
  /-- 0 to 5 name D0 to D5; 6 and 7 name no port -/
  destPort : BitVec 3 := 0
  group : GroupIx := 0
  translationBase : Block := 0
  /-- write mode: CONVERT when set, PASS when clear -/
  convert : Bool := false
deriving DecidableEq, Repr

/-- An interleave group entry (R65). -/
structure Group where
  valid : Bool := false
  memberCount : BitVec 3 := 0
  member0 : BitVec 3 := 0
  member1 : BitVec 3 := 0
  member2 : BitVec 3 := 0
  member3 : BitVec 3 := 0
  granuleCode : BitVec 2 := 0
  compaction : Bool := false
deriving DecidableEq, Repr

/-- One bank: 32 windows and 4 groups (R45). -/
structure Bank where
  windows : Vector Window 32
  groups : Vector Group 4
deriving DecidableEq, Repr

/-- The two banks and the table generation (R45, R92). -/
structure Banks where
  active : Bank
  staging : Bank
  generation : Seq
deriving DecidableEq, Repr

/-! ## The commit engine (chapter 5) -/

/-- Commit modes (R80). -/
inductive CommitMode where
  | immediate | drain
deriving DecidableEq, Repr

/-- Engine states (R79); VALIDATING holds the recorded mode, DRAINING is always of mode DRAIN. -/
inductive EngineState where
  | idle | validating (mode : CommitMode) | draining
deriving DecidableEq, Repr

/-- Commit result codes (R95). -/
inductive CommitCode where
  | none | done | badWindow | badGroup | overlap | drainExpired | abandoned
deriving DecidableEq, Repr

/-- The commit result record (R95). -/
structure CommitResult where
  code : CommitCode
  first : Option Nat
  second : Option Nat
  generation : Seq
deriving DecidableEq, Repr

/-- The commit engine (R79, R95, R96). -/
structure CommitEngine where
  engine : EngineState
  /-- t_DRN: the earliest moment of its expiry while it runs -/
  tDrn : Option Nat
  result : CommitResult
  /-- the drain deadline setting, 1 to 255 ms -/
  drainDeadline : Nat
deriving DecidableEq, Repr

/-! ## Admission (chapter 6) -/

/-- The resources a tracked request needs; a set field is a missing one (R107). -/
structure Missing where
  hostCount : Bool
  targetCount : Bool
  ortEntry : Bool
  egressSlot : Bool
  answerRoom : Bool
deriving DecidableEq, Repr

/-- Why a head waits (R112). -/
inductive WaitReason where
  | pause | management | resource (m : Missing) | answerRoom
deriving DecidableEq, Repr

/-- The condition of a host port's head (R98). -/
inductive HeadCondition where
  | noHead | held | presented | waiting (r : WaitReason)
deriving DecidableEq, Repr

/-- The admission unit (R98, R116, R118). -/
structure Admission where
  /-- round-robin pointer for ORT entries and target egress slots (R116) -/
  pointer : HPort
  /-- round-robin pointer for the management unit (R118) -/
  mgmtPointer : HPort
  heads : Vector HeadCondition 4
  /-- the model's own: a wake event of R113 was taken in this step and its pass is due (log entry 5) -/
  passDue : Bool
deriving DecidableEq, Repr

/-! ## The request tracker (chapters 7 and 8) -/

/-- ORT entry states (R125). -/
inductive EntryState where
  | free | waiting | receiving | quarantined
deriving DecidableEq, Repr

/-- ORT entry kinds (R123). -/
inductive EntryKind where
  | read | writeAck | writeConverted
deriving DecidableEq, Repr

/-- An ORT entry (R123). -/
structure Entry where
  state : EntryState := .free
  phase : Bool := false
  kind : EntryKind := .read
  host : HPort := 0
  hostTag : Byte := 0
  target : DPort := 0
  address : Addr := 0
  length : BitVec 9 := 0
  /-- bytes delivered, 0 to 256 -/
  delivered : Nat := 0
  window : WinIx := 0
  generation : Seq := 0
  sent : Bool := false
  orphaned : Bool := false
  absorbed : Bool := false
  /-- the earliest moment of the expiry, or absent -/
  deadline : Option Nat := none
  /-- the earliest moment of the quarantine's end, or absent -/
  quarantine : Option Nat := none
deriving DecidableEq, Repr

/-- An item of a host port's answer list (R154). -/
structure AnswerItem where
  hostTag : Byte
  status : Status
  target : DPort
  /-- its place in production order -/
  order : Nat
deriving DecidableEq, Repr

/-- A packet the tracker produced from a matched completion, waiting at a target ingress head (R153). -/
structure Produced where
  host : HPort
  packet : Packet
  order : Nat
deriving DecidableEq, Repr

/-- The request tracker (R123, R153, R154, R155). The host-tag map and the host and target counts are
functions of `ort` (R130, R132, R133). -/
structure Tracker where
  ort : Vector Entry 128
  /-- one answer list for each host port -/
  answers : Vector (List AnswerItem) 4
  /-- one round-robin pointer over D0 to D5 for each host port -/
  pointers : Vector DPort 4
  /-- the packet waiting at each target port's ingress head -/
  waiting : Vector (Option Produced) 6
  /-- the next place in production order -/
  nextOrder : Nat
deriving DecidableEq, Repr

/-! ## Fault recorder (chapter 9) -/

/-- The seventeen fault kinds, in the order of R164. -/
inductive FaultKind where
  | integrityError | malformedPacket | malformedRequest | mgmtDenied | unmappedAddress | accessDenied
  | duplicateTag | targetUnreachable | completionTimeout | lateCompletion | unexpectedCompletion
  | completionMismatch | targetAbort | absorbedWriteFailed | linkLost | trainingFailed | alertOverflow
deriving DecidableEq, Repr

/-- The fault classes (R164). -/
inductive FaultClass where
  | ignore | record | notify | isolate
deriving DecidableEq, Repr

/-- The detail of a fault record (R166). -/
inductive Detail where
  | none | notSent | absorbed | isolationWithheld | count (n : Nat)
deriving DecidableEq, Repr

/-- A fault record (R166). -/
structure FaultRecord where
  sequence : Seq
  kind : FaultKind
  port : Port
  entry : Option EntryIx
  hostTag : Option Byte
  window : Option WinIx
  address : Option Addr
  generation : Seq
  detail : Detail
deriving DecidableEq, Repr

/-- The four header fields kept for the snapshot (R166). -/
structure HeaderCapture where
  kindCode : Byte
  tag : Byte
  address : Addr
  length : BitVec 9
deriving DecidableEq, Repr

/-- The first-fault snapshot (R172): in EMPTY the record is the last one held, none after cold reset. -/
structure Snapshot where
  held : Bool
  /-- the multiple-faults flag -/
  multiple : Bool
  record : Option FaultRecord
  capture : Option HeaderCapture
deriving DecidableEq, Repr

/-- The fault recorder (chapter 9). -/
structure Recorder where
  queue : List FaultRecord
  /-- the sequence the next record takes (R168) -/
  sequence : Seq
  overflow : Bool
  snapshot : Snapshot
deriving DecidableEq, Repr

/-! ## Notification unit (chapter 10) -/

/-- What a pending item carries beside the common fields (R184). -/
inductive ItemKind where
  /-- ALERT: device, severity, alert code, argument -/
  | alert (device : BitVec 4) (severity : Severity) (code : BitVec 16) (argument : BitVec 32)
  /-- FAULT: the fault kind and the fault sequence -/
  | fault (kind : FaultKind) (sequence : Seq)
deriving DecidableEq, Repr

/-- A pending-list item (R184). -/
structure PendingItem where
  kind : ItemKind
  source : Port
  /-- 1 to 255, saturating -/
  repeatCount : BitVec 8
  sent : Bool
deriving DecidableEq, Repr

/-- The notification outstanding: its sequence and its first copy (R185, R188). -/
structure Outstanding where
  sequence : Seq
  packet : Packet
deriving DecidableEq, Repr

/-- Channel states (R185). -/
inductive ChannelState where
  | disabled | idle | awaitingAck | stalled
deriving DecidableEq, Repr

/-- The notification unit (chapter 10). -/
structure Notifier where
  items : List PendingItem
  channel : ChannelState
  /-- the notification address (R190) -/
  address : Addr
  /-- t_RNT code, 0 to 6 (R193) -/
  tRntCode : Nat
  /-- re-send limit, 0 to 7 (R193) -/
  resendLimit : Nat
  /-- the notification sequence counter (R186) -/
  sequence : Seq
  outstanding : Option Outstanding
  /-- the re-send count -/
  resends : Nat
  /-- t_RNT: the earliest moment of its expiry while it runs -/
  tRnt : Option Nat
  noticesLost : Bool
  /-- a copy waiting for room at the supervisor port (R188) -/
  copy : Option Packet
deriving DecidableEq, Repr

/-! ## Management unit (chapter 11) -/

/-- An aperture access: the port it came from and its request (R117). -/
structure Access where
  port : HPort
  packet : Packet
deriving DecidableEq, Repr

/-- The action that a command on the requester's own port, or BRIDGE_RESET, takes after its answer has entered the
egress queue (R24, R200, R201). -/
inductive SelfAction where
  | portReset (h : HPort) | portDisable (h : HPort) | portIsolate (h : HPort) | portRestore (h : HPort) | warmReset
deriving DecidableEq, Repr

/-- The management unit is FREE or BUSY (R117); BUSY with an access that has not completed, or with a command of R200
whose answer has not entered the egress queue: with its action, or with none where it was refused DENIED. -/
inductive MgmtUnit where
  | free | accessing (a : Access) | answering (a : Access) (act : Option SelfAction)
deriving DecidableEq, Repr

/-- The multi-word records read under a latch (R198). -/
inductive RecordId where
  | portRecord (p : Port) | commitStatus | activeWindow (w : WinIx) | ortEntry (e : EntryIx)
  | faultHead | snapshot | pendingItem (n : Fin 8)
deriving DecidableEq, Repr

/-- A read latch that holds a record: its identity and a copy of its words (R198). -/
structure Latch where
  record : RecordId
  words : List Word
deriving DecidableEq, Repr

/-- The results of the command result word (R199). -/
inductive CommandOutcome where
  | done | empty | denied
deriving DecidableEq, Repr

/-- The command result word (R199). -/
structure CommandResult where
  code : Byte
  outcome : CommandOutcome
deriving DecidableEq, Repr

/-- The management unit (R117, R165, R195, R197 to R200). -/
structure Management where
  apertureBase : Block
  /-- bit h is set when Hh holds grant -/
  grant : BitVec 4
  supervisor : HPort
  /-- the class of each fault kind, by kind code (R165) -/
  classes : Vector FaultClass 17
  latches : Vector (Option Latch) 4
  result : CommandResult
  unit : MgmtUnit
  /-- an action of R200 or R201 that is the unit's next event -/
  action : Option SelfAction
  /-- answers of class MANAGEMENT waiting for room, one at most for each port (R117) -/
  answers : Vector (Option Packet) 4
deriving DecidableEq, Repr

/-! ## The machine -/

/-- The whole machine. -/
structure State where
  hosts : Vector HostPort 4
  targets : Vector TargetPort 6
  admission : Admission
  tracker : Tracker
  banks : Banks
  commit : CommitEngine
  mgmt : Management
  recorder : Recorder
  notifier : Notifier
  /-- the model's own: the present moment, in µs (log entry 4) -/
  now : Nat
  /-- the commands waiting, first in, first out -/
  pending : List Instr
deriving DecidableEq, Repr

/-- No behaviour the spec gives a command stops the part, so a step of this model never faults: the type has
no constructor (log entry 2). -/
inductive Fault where
deriving DecidableEq, Repr

/-- Why a step may be refused. -/
inductive Refusal where
  /-- Raised by `exec` alone, for a command that has no meaning yet; safe. No arm of this model raises it. -/
  | notModelled (mnemonic : String)
deriving DecidableEq, Repr

/-! ## Cold reset -/

/-- A port unit after cold reset (R44). -/
def PortUnit.reset : PortUnit :=
  { state := .down, attempts := 0, tTrn := none, ingress := [], egress := [], attemptLimit := 3 }

/-- A host port after cold reset (R44). -/
def HostPort.reset : HostPort :=
  { link := PortUnit.reset, classPtr := .localAnswer, isolatedWaits := false, outstandingLimit := 32 }

/-- A target port after cold reset (R44). -/
def TargetPort.reset : TargetPort :=
  { link := PortUnit.reset, outstandingLimit := 64, timeoutCode := 5, threshold := .degraded,
    isolateOnFailing := false }

/-- A bank after cold reset: valid no, every other field zero (R60). -/
def Bank.reset : Bank := { windows := Vector.replicate 32 {}, groups := Vector.replicate 4 {} }

/-- The tracker after cold reset (R142, R163). -/
def Tracker.reset : Tracker :=
  { ort := Vector.replicate 128 {}, answers := Vector.replicate 4 [], pointers := Vector.replicate 4 0,
    waiting := Vector.replicate 6 none, nextOrder := 0 }

/-- The commit engine after cold reset (R97). -/
def CommitEngine.reset : CommitEngine :=
  { engine := .idle, tDrn := none, drainDeadline := 50,
    result := { code := .none, first := none, second := none, generation := 0 } }

/-- The admission unit after cold reset (R122). -/
def Admission.reset : Admission :=
  { pointer := 0, mgmtPointer := 0, heads := Vector.replicate 4 .noHead, passDue := false }

/-- The fault recorder after cold reset (R178). -/
def Recorder.reset : Recorder :=
  { queue := [], sequence := 0, overflow := false,
    snapshot := { held := false, multiple := false, record := none, capture := none } }

/-- The notification unit after cold reset (R194). -/
def Notifier.reset : Notifier :=
  { items := [], channel := .disabled, address := 0, tRntCode := 3, resendLimit := 3, sequence := 0,
    outstanding := none, resends := 0, tRnt := none, noticesLost := false, copy := none }

/-- The default classes, in the order of R164. -/
def defaultClasses : Vector FaultClass 17 :=
  #v[.record, .record, .record, .notify, .record, .notify, .notify, .record, .notify, .record, .notify,
     .notify, .record, .notify, .notify, .notify, .record]

/-- The aperture block the APS straps select (R195). -/
def strapBlock (aps : BitVec 2) : Block :=
  if aps = 0 then 0xFFFFFF#24 else if aps = 1 then 0xFFF000#24 else if aps = 2 then 0x800000#24 else 0#24

/-- The host port the MGS straps select (00_scope, Pins and straps). -/
def strapHost (mgs : BitVec 2) : HPort := mgs.toFin

/-- The management unit after cold reset (R178, R204). -/
def Management.reset (aps mgs : BitVec 2) : Management :=
  { apertureBase := strapBlock aps, grant := 1#4 <<< mgs.toNat, supervisor := strapHost mgs,
    classes := defaultClasses, latches := Vector.replicate 4 none, result := { code := 0, outcome := .done },
    unit := .free, action := none, answers := Vector.replicate 4 none }

/-- The machine after a cold reset with the straps at these levels. -/
def State.resetWith (aps mgs : BitVec 2) : State :=
  { hosts := Vector.replicate 4 HostPort.reset, targets := Vector.replicate 6 TargetPort.reset,
    admission := Admission.reset, tracker := Tracker.reset,
    banks := { active := Bank.reset, staging := Bank.reset, generation := 0 },
    commit := CommitEngine.reset, mgmt := Management.reset aps mgs, recorder := Recorder.reset,
    notifier := Notifier.reset, now := 0, pending := [] }

/-- The machine right after reset; the straps stand at the levels Config names (log entry 1). -/
def State.reset : State := State.resetWith Config.resetAps Config.resetMgs

end Sys2Proof.Machine
end

