-- ==== Sys2Proof/Machine/Operands.lean ====
section
/-! DEFINITION. The layouts of R205: little-endian byte strings, the packet header, the integrity check, the
codes of names, the bit fields of an aperture word, the records' words, and the aperture map. -/

namespace Sys2Proof.Machine

/-! ## Byte strings and bit fields -/

/-- The number a little-endian byte string holds (R205). -/
def leNat : List Byte → Nat
  | [] => 0
  | b :: bs => b.toNat + 256 * leNat bs

/-- The low `n` bytes of a number, little-endian (R205). -/
def leBytes : Nat → Nat → List Byte
  | 0, _ => []
  | n + 1, v => BitVec.ofNat 8 v :: leBytes n (v / 256)

/-- Bits `lo` to `lo + n - 1` of an aperture word. -/
def bits (w : Word) (lo n : Nat) : BitVec n := w.extractLsb' lo n

/-- A field placed at bit `lo` of an aperture word. -/
def placed {n : Nat} (lo : Nat) (v : BitVec n) : Word := v.setWidth 64 <<< lo

/-- A number placed at bit `lo` of an aperture word. -/
def placedNat (lo v : Nat) : Word := BitVec.ofNat 64 v <<< lo

/-- A flag placed at bit `lo` of an aperture word. -/
def placedBit (lo : Nat) (b : Bool) : Word := if b then 1#64 <<< lo else 0#64

/-! ## The integrity check (R10) -/

/-- One bit of the check: the register of R10 held reflected, so that the coefficient of x^31 is bit 0. -/
def crcBit (r : BitVec 32) : BitVec 32 :=
  if r.getLsbD 0 then (r >>> 1) ^^^ 0xEDB88320#32 else r >>> 1

/-- `n` bits of the check. -/
def crcBits : Nat → BitVec 32 → BitVec 32
  | 0, r => r
  | n + 1, r => crcBits n (crcBit r)

/-- One byte of the check, least significant bit first. -/
def crcByte (r : BitVec 32) (b : Byte) : BitVec 32 := crcBits 8 (r ^^^ b.setWidth 32)

/-- The CRC-32 of R10: register at all ones, bytes in order, remainder inverted. -/
def crc32 (bs : List Byte) : BitVec 32 := ~~~ bs.foldl crcByte 0xFFFFFFFF#32

/-! ## Codes of names -/

/-- The code of a packet kind (R205). -/
def Kind.code : Kind → Byte
  | .rdq => 1 | .wpq => 2 | .waq => 3 | .cpd => 4 | .cps => 5 | .alm => 6

/-- The kind a code names (R205). -/
def Kind.ofCode (c : Byte) : Option Kind :=
  if c = 1 then some .rdq else if c = 2 then some .wpq else if c = 3 then some .waq
  else if c = 4 then some .cpd else if c = 5 then some .cps else if c = 6 then some .alm else none

/-- The kind of a packet. -/
def Packet.kind (p : Packet) : Option Kind := Kind.ofCode p.kindCode

/-- The code of a status (R205). -/
def Status.code : Status → Byte
  | .ok => 0 | .unmapped => 1 | .denied => 2 | .malformed => 3 | .unreachable => 4 | .aborted => 5
  | .expired => 6 | .busy => 7

/-- The code of a severity (R2). -/
def Severity.code : Severity → BitVec 2
  | .info => 1 | .degraded => 2 | .failing => 3

/-- The severity a code names; severity 0 names none and is refused on arrival and on write (R11, R41). -/
def Severity.ofCode (c : BitVec 2) : Option Severity :=
  if c = 1 then some .info else if c = 2 then some .degraded else if c = 3 then some .failing else none

/-- The port code of a port: 0 to 3 for H0 to H3, 4 to 9 for D0 to D5 (R205). -/
def portCode : Port → Nat
  | .host h => h.val
  | .target d => 4 + d.val

/-- The port a port code names, if any (R24, R205). -/
def portOfCode (c : Nat) : Option Port :=
  if h : c < 4 then some (.host ⟨c, h⟩)
  else if h : c - 4 < 6 then some (.target ⟨c - 4, h⟩) else none

/-- The fault kinds in the order of R164. -/
def faultKinds : Vector FaultKind 17 :=
  #v[.integrityError, .malformedPacket, .malformedRequest, .mgmtDenied, .unmappedAddress, .accessDenied,
     .duplicateTag, .targetUnreachable, .completionTimeout, .lateCompletion, .unexpectedCompletion,
     .completionMismatch, .targetAbort, .absorbedWriteFailed, .linkLost, .trainingFailed, .alertOverflow]

/-- The code of a fault kind (R205). -/
def FaultKind.code : FaultKind → Fin 17
  | .integrityError => 0 | .malformedPacket => 1 | .malformedRequest => 2 | .mgmtDenied => 3
  | .unmappedAddress => 4 | .accessDenied => 5 | .duplicateTag => 6 | .targetUnreachable => 7
  | .completionTimeout => 8 | .lateCompletion => 9 | .unexpectedCompletion => 10 | .completionMismatch => 11
  | .targetAbort => 12 | .absorbedWriteFailed => 13 | .linkLost => 14 | .trainingFailed => 15
  | .alertOverflow => 16

/-- The code of a fault class (R205). -/
def FaultClass.code : FaultClass → BitVec 2
  | .ignore => 0 | .record => 1 | .notify => 2 | .isolate => 3

/-- The fault class a code names (R205). -/
def FaultClass.ofCode (c : BitVec 2) : FaultClass :=
  if c = 0 then .ignore else if c = 1 then .record else if c = 2 then .notify else .isolate

/-- The classes a kind may be given (R164). -/
def FaultKind.allows : FaultKind → FaultClass → Bool
  | .targetUnreachable, c => c != .isolate
  | .lateCompletion, c => c != .isolate
  | .linkLost, c => c == .record || c == .notify
  | .trainingFailed, c => c == .record || c == .notify
  | .alertOverflow, c => c == .ignore || c == .record
  | _, _ => true

/-- The code of a port state (R205). -/
def LinkState.code : LinkState → Nat
  | .disabled => 0 | .down => 1 | .training => 2 | .up => 3 | .isolated => 4 | .failed => 5

/-- The code of a commit result (R205). -/
def CommitCode.code : CommitCode → Nat
  | .none => 0 | .done => 1 | .badWindow => 2 | .badGroup => 3 | .overlap => 4 | .drainExpired => 5
  | .abandoned => 6

/-- The code of an ORT entry state (R205). -/
def EntryState.code : EntryState → Nat
  | .free => 0 | .waiting => 1 | .receiving => 2 | .quarantined => 3

/-- The code of an ORT entry kind (R205). -/
def EntryKind.code : EntryKind → Nat
  | .read => 0 | .writeAck => 1 | .writeConverted => 2

/-- The code of a channel state (R205). -/
def ChannelState.code : ChannelState → Nat
  | .disabled => 0 | .idle => 1 | .awaitingAck => 2 | .stalled => 3

/-- The code of a command result (R205). -/
def CommandOutcome.code : CommandOutcome → Nat
  | .done => 0 | .empty => 2 | .denied => 3

/-! ## Packets -/

/-- Byte `i` of a packet's header. -/
def headerByte (bs : List Byte) (i : Nat) : Byte := bs.getD i 0

/-- The packet a byte string of at least 20 bytes carries: 16 header bytes, payload, check (R1, R205). -/
def parsePacket (bs : List Byte) : Packet :=
  { kindCode := headerByte bs 0
    tag := headerByte bs 1
    length := BitVec.ofNat 9 (leNat ((bs.drop 2).take 2))
    offset := headerByte bs 4
    final := (headerByte bs 5).getLsbD 0
    status := headerByte bs 6
    device := (headerByte bs 7).extractLsb' 0 4
    severity := (headerByte bs 7).extractLsb' 4 2
    address := BitVec.ofNat 44 (leNat ((bs.drop 8).take 6))
    payload := (bs.drop 16).take (bs.length - 20) }

/-- Whether a byte string has the size of a packet (R1). -/
def packetSizeOk (bs : List Byte) : Bool := 20 ≤ bs.length && bs.length ≤ 276

/-- Whether a byte string's last four bytes are the check over what stands before them (R10). -/
def integrityOk (bs : List Byte) : Bool :=
  leNat (bs.drop (bs.length - 4)) == (crc32 (bs.take (bs.length - 4))).toNat

/-- The 16 header bytes of a packet (R205). -/
def Packet.headerBytes (p : Packet) : List Byte :=
  [p.kindCode, p.tag] ++ leBytes 2 p.length.toNat ++ [p.offset, if p.final then 1 else 0, p.status,
    p.severity.setWidth 8 <<< 4 ||| p.device.setWidth 8] ++ leBytes 6 p.address.toNat ++ [0, 0]

/-- The bytes of a packet as the part sends it, its check computed afresh (R10, R15). -/
def Packet.toBytes (p : Packet) : List Byte :=
  let body := p.headerBytes ++ p.payload
  body ++ leBytes 4 (crc32 body).toNat

/-- The header fields the first-fault snapshot keeps (R166). -/
def Packet.capture (p : Packet) : HeaderCapture :=
  { kindCode := p.kindCode, tag := p.tag, address := p.address, length := p.length }

/-- A CPS of the bridge: tag, status, final flag set, every other field zero (R2, R7). -/
def cpsPacket (tag : Byte) (st : Status) : Packet :=
  { kindCode := Kind.cps.code, tag := tag, final := true, status := st.code }

/-- A CPD of the bridge: offset 0, the whole length, final flag set, status OK (R6). -/
def cpdPacket (tag : Byte) (data : List Byte) : Packet :=
  { kindCode := Kind.cpd.code, tag := tag, length := BitVec.ofNat 9 data.length, final := true,
    payload := data }

/-- A request is well-formed (R12). -/
def Packet.wellFormedRequest (p : Packet) : Bool :=
  1 ≤ p.length.toNat && p.length.toNat ≤ 256 && p.address.toNat % 256 + p.length.toNat ≤ 256 &&
  match p.kind with
  | some .rdq => p.payload.length == 0
  | some .wpq => p.payload.length == p.length.toNat
  | some .waq => p.payload.length == p.length.toNat
  | _ => false

/-- The form checks of a completion or alert on arrival (R11). -/
def Packet.formOk (p : Packet) : Bool :=
  match p.kind with
  | some .cpd => p.status == Status.ok.code && p.payload.length == p.length.toNat
  | some .cps => p.final && p.payload.length == 0
  | some .alm => p.severity != 0 && p.length.toNat == 8 && p.payload.length == 8
  | _ => true

/-- Whether a kind may arrive on this side (R9). -/
def kindLegalOn : Port → Option Kind → Bool
  | .host _, some .rdq | .host _, some .wpq | .host _, some .waq => true
  | .target _, some .cpd | .target _, some .cps | .target _, some .alm => true
  | _, _ => false

/-! ## Bank records (R205) -/

/-- The words of a window record; word 3 is unassigned. -/
def Window.word (w : Window) (i : Fin 4) : Word :=
  match i with
  | 0 => placedBit 0 w.valid ||| placed 1 w.level ||| placedBit 3 w.readAllowed ||| placedBit 4 w.writeAllowed
      ||| placed 8 w.hostSet ||| placed 12 w.destKind ||| placed 16 w.destPort ||| placedNat 20 w.group.val
      ||| placedBit 24 w.convert
  | 1 => placed 0 w.base ||| placed 32 w.limit
  | 2 => placed 0 w.translationBase
  | 3 => 0

/-- A window with one word of its record written: the word's fields take the value, the others keep theirs
(R76). -/
def Window.withWord (w : Window) (i : Fin 4) (v : Word) : Window :=
  match i with
  | 0 => { w with
      valid := v.getLsbD 0, level := bits v 1 2, readAllowed := v.getLsbD 3, writeAllowed := v.getLsbD 4,
      hostSet := bits v 8 4, destKind := bits v 12 2, destPort := bits v 16 3, group := (bits v 20 2).toFin,
      convert := v.getLsbD 24 }
  | 1 => { w with base := bits v 0 24, limit := bits v 32 24 }
  | 2 => { w with translationBase := bits v 0 24 }
  | 3 => w

/-- The words of a group record. -/
def Group.word (g : Group) (i : Fin 2) : Word :=
  match i with
  | 0 => placedBit 0 g.valid ||| placed 4 g.memberCount ||| placed 8 g.granuleCode ||| placedBit 12 g.compaction
  | 1 => placed 0 g.member0 ||| placed 8 g.member1 ||| placed 16 g.member2 ||| placed 24 g.member3

/-- A group with one word of its record written (R75, R76). -/
def Group.withWord (g : Group) (i : Fin 2) (v : Word) : Group :=
  match i with
  | 0 => { g with
      valid := v.getLsbD 0, memberCount := bits v 4 3, granuleCode := bits v 8 2, compaction := v.getLsbD 12 }
  | 1 => { g with
      member0 := bits v 0 3, member1 := bits v 8 3, member2 := bits v 16 3, member3 := bits v 24 3 }

/-! ## The aperture map (R205) -/

/-- The words of the aperture; `unassigned` is every offset the map does not list. Word 2 of an H-port
record and word 3 of port and window records have a place in their record and are unassigned too. -/
inductive Reg where
  | identification (i : Fin 3) | grantSet | supervisorPort | apertureBase | notificationAddress | tRntCode
  | resendLimit | drainDeadline | commandWord | commandResult | commitStatus (i : Fin 2)
  | portRecord (p : Port) (i : Fin 4) | faultClass (k : FaultKind) | faultCounters | faultHead (i : Fin 3)
  | snapshot (i : Fin 5) | channelState | acknowledge | pendingOccupancy | pendingItem (n : Fin 8) (i : Fin 2)
  | stagingWindow (n : WinIx) (i : Fin 4) | stagingGroup (n : GroupIx) (i : Fin 2)
  | activeWindow (n : WinIx) (i : Fin 4) | activeGroup (n : GroupIx) (i : Fin 2)
  | ortEntry (e : EntryIx) (i : Fin 2) | unassigned
deriving DecidableEq, Repr

/-- The word an 8-byte aligned offset names within a region of `n` words at `base`. -/
def slot (base n o : Nat) : Option (Fin n) :=
  if h : base ≤ o ∧ (o - base) / 8 < n then some ⟨(o - base) / 8, h.2⟩ else none

/-- The record a word of a region of `m` records of `n` words each stands in. -/
def recordOf (m n : Nat) (i : Fin (m * n)) : Fin m := i.divNat

/-- The word's place in its record. -/
def wordOf (m n : Nat) (i : Fin (m * n)) : Fin n := i.modNat

/-- The port whose record stands `c`-th. -/
def portAt (c : Fin 10) : Port :=
  if h : c.val < 4 then .host ⟨c.val, h⟩ else .target ⟨c.val - 4, by omega⟩

/-- The word at an 8-byte aligned offset of the aperture. -/
def regAt (o : Nat) : Reg :=
  (((slot 0x0 3 o).map Reg.identification) <|>
   ((slot 0x100 1 o).map fun _ => Reg.grantSet) <|>
   ((slot 0x108 1 o).map fun _ => Reg.supervisorPort) <|>
   ((slot 0x110 1 o).map fun _ => Reg.apertureBase) <|>
   ((slot 0x118 1 o).map fun _ => Reg.notificationAddress) <|>
   ((slot 0x120 1 o).map fun _ => Reg.tRntCode) <|>
   ((slot 0x128 1 o).map fun _ => Reg.resendLimit) <|>
   ((slot 0x130 1 o).map fun _ => Reg.drainDeadline) <|>
   ((slot 0x200 1 o).map fun _ => Reg.commandWord) <|>
   ((slot 0x208 1 o).map fun _ => Reg.commandResult) <|>
   ((slot 0x300 2 o).map Reg.commitStatus) <|>
   ((slot 0x1000 (10 * 4) o).map fun i => Reg.portRecord (portAt (recordOf 10 4 i)) (wordOf 10 4 i)) <|>
   ((slot 0x2000 17 o).map fun i => Reg.faultClass faultKinds[i]) <|>
   ((slot 0x3000 1 o).map fun _ => Reg.faultCounters) <|>
   ((slot 0x3010 3 o).map Reg.faultHead) <|>
   ((slot 0x3100 5 o).map Reg.snapshot) <|>
   ((slot 0x4000 1 o).map fun _ => Reg.channelState) <|>
   ((slot 0x4008 1 o).map fun _ => Reg.acknowledge) <|>
   ((slot 0x4100 1 o).map fun _ => Reg.pendingOccupancy) <|>
   ((slot 0x4140 (8 * 2) o).map fun i => Reg.pendingItem (recordOf 8 2 i) (wordOf 8 2 i)) <|>
   ((slot 0x10000 (32 * 4) o).map fun i => Reg.stagingWindow (recordOf 32 4 i) (wordOf 32 4 i)) <|>
   ((slot 0x10400 (4 * 2) o).map fun i => Reg.stagingGroup (recordOf 4 2 i) (wordOf 4 2 i)) <|>
   ((slot 0x20000 (32 * 4) o).map fun i => Reg.activeWindow (recordOf 32 4 i) (wordOf 32 4 i)) <|>
   ((slot 0x20400 (4 * 2) o).map fun i => Reg.activeGroup (recordOf 4 2 i) (wordOf 4 2 i)) <|>
   ((slot 0x30000 (128 * 2) o).map fun i => Reg.ortEntry (recordOf 128 2 i) (wordOf 128 2 i))).getD .unassigned

/-! ## Accesses -/

/-- The offset of an access within the aperture block: its address's low 20 bits. -/
def Access.offset (a : Access) : Nat := a.packet.address.toNat % 2 ^ 20

/-- The word an access names. -/
def Access.reg (a : Access) : Reg := regAt a.offset

/-- The value a write carries. -/
def Access.value (a : Access) : Word := BitVec.ofNat 64 (leNat a.packet.payload)

/-- Rule 1 of R196: length not 8, or offset not a multiple of 8. -/
def Access.malformed (a : Access) : Bool := a.packet.length != 8#9 || a.offset % 8 != 0

/-- Whether an access is a read. -/
def Access.isRead (a : Access) : Bool := a.packet.kind == some .rdq

/-- The command code of a write to the command word (R199). -/
def Access.commandCode (a : Access) : Byte := bits a.value 0 8

/-- The argument of a write to the command word (R199). -/
def Access.argument (a : Access) : Byte := bits a.value 8 8

/-- The step that ends a write to the command word, by its code (R205). -/
def commandStep (c : Byte) : Instr :=
  if c = 0x01 then .commit else if c = 0x02 then .reseedStaging else if c = 0x10 then .portEnable
  else if c = 0x11 then .portDisable else if c = 0x12 then .portReset else if c = 0x13 then .portIsolate
  else if c = 0x14 then .portRestore else if c = 0x15 then .portRetrain else if c = 0x20 then .faultPop
  else if c = 0x21 then .snapshotRelease else if c = 0x30 then .channelRearm
  else if c = 0x3F then .bridgeReset else .unknownCommand

/-- The step that ends a write to a word (R196, opcode_table.json). -/
def writeStep (r : Reg) (code : Byte) : Instr :=
  match r with
  | .acknowledge => .acknowledge
  | .notificationAddress => .channelEnableWrite
  | .supervisorPort => .supervisorPortWrite
  | .apertureBase => .apertureBaseWrite
  | .grantSet => .grantSetWrite
  | .stagingWindow _ _ => .stagingWrite
  | .stagingGroup _ _ => .stagingWrite
  | .portRecord _ _ => .portConfigWrite
  | .faultClass _ => .faultClassWrite
  | .commandWord => commandStep code
  | _ => .settingWrite

/-- The one step of the table that ends an access (R196). -/
def Access.step (a : Access) : Instr :=
  if a.malformed then .malformedApertureAccess
  else if a.isRead then .latchedRead
  else writeStep a.reg a.commandCode

end Sys2Proof.Machine
end

