-- ==== Sys2Proof/Machine/Lookup.lean ====
section
/-! DEFINITION. The lookup unit (chapters 3 and 4): classification of an address, permission and host set,
translation and interleave. It holds no state. -/

namespace Sys2Proof.Machine

/-- The block number of a system address (R48). -/
def blockOf (a : Addr) : Block := a.extractLsb' 20 24

/-- The byte address at which a block begins. -/
def blockStart (b : Block) : Nat := b.toNat * 2 ^ 20

/-- A valid window that holds the block (R48, R50). -/
def Window.holds (w : Window) (b : Block) : Bool :=
  w.valid && decide (w.base.toNat ≤ b.toNat) && decide (b.toNat ≤ w.limit.toNat)

/-- The lowest-indexed valid window of one class that holds the block; the active bank has at most one (R50). -/
def Bank.candidate (bank : Bank) (b : Block) (level : BitVec 2) : Option WinIx :=
  (List.finRange 32).find? fun i => (bank.windows[i]).holds b && (bank.windows[i]).level == level

/-- The window selected for a block: the candidate of highest class (R50). -/
def Bank.select (bank : Bank) (b : Block) : Option WinIx :=
  bank.candidate b 3 <|> bank.candidate b 2 <|> bank.candidate b 1 <|> bank.candidate b 0

/-- Whether the window's permission admits a request kind (R52). -/
def Window.permits (w : Window) (k : Option Kind) : Bool :=
  match k with
  | some .rdq => w.readAllowed
  | _ => w.writeAllowed

/-- The target port a port code names; codes 6 and 7 stand in no valid window or group of an active bank that a
commit made (R47, R66, log entry 6). -/
def targetOf (c : BitVec 3) : DPort := if h : c.toNat < 6 then ⟨c.toNat, h⟩ else 0

/-- The request's offset within a window (R62). -/
def Window.offset (w : Window) (a : Addr) : Nat := a.toNat - blockStart w.base

/-- The granule of a group in bytes (R65). -/
def Group.granule (g : Group) : Nat := 256 * 16 ^ g.granuleCode.toNat

/-- The interleave period (R65). -/
def Group.period (g : Group) : Nat := g.granule * g.memberCount.toNat

/-- The member code at a position of the member list (R65). -/
def Group.memberAt (g : Group) (i : Nat) : BitVec 3 :=
  match i with
  | 0 => g.member0
  | 1 => g.member1
  | 2 => g.member2
  | _ => g.member3

/-- The member index an offset falls to (R67). -/
def Group.memberIndex (g : Group) (o : Nat) : Nat := o / g.granule % g.memberCount.toNat

/-- The target port an offset falls to (R67). -/
def Group.member (g : Group) (o : Nat) : DPort := targetOf (g.memberAt (g.memberIndex o))

/-- The output offset (R68, R69). -/
def Group.outputOffset (g : Group) (o : Nat) : Nat :=
  if g.compaction then o / g.period * g.granule + o % g.granule else o

/-- The target port a window routes an address to (R55, R56). -/
def Window.target (w : Window) (g : Group) (a : Addr) : DPort :=
  if w.destKind = 0 then targetOf w.destPort else g.member (w.offset a)

/-- The translated address (R63, R68, R69). -/
def Window.translate (w : Window) (g : Group) (a : Addr) : Addr :=
  BitVec.ofNat 44 (blockStart w.translationBase +
    if w.destKind = 0 then w.offset a else g.outputOffset (w.offset a))

/-- The five results of a classification (R54). -/
inductive Classification where
  | aperture
  | unmapped
  | refused (w : WinIx)
  | discard (w : WinIx)
  | routed (w : WinIx) (d : DPort) (a : Addr) (convert : Bool) (generation : Seq)
deriving DecidableEq, Repr

/-- The classification of a request by the selected window of the active bank: permission and host set (R51 to
R53), then the destination kind (R55 to R57). -/
def Banks.classifyIn (b : Banks) (h : HPort) (k : Option Kind) (a : Addr) (i : WinIx) : Classification :=
  let w := b.active.windows[i]
  if !(w.permits k && w.hostSet.getLsbD h.val) then .refused i
  else if w.destKind = 0 || w.destKind = 1 then
    let g := b.active.groups[w.group]
    .routed i (w.target g a) (w.translate g a) w.convert b.generation
  else .discard i

/-- The classification of a request (R49, R50): the aperture first, then the selected window. -/
def Banks.classify (b : Banks) (apertureBase : Block) (h : HPort) (k : Option Kind) (a : Addr) : Classification :=
  if blockOf a = apertureBase then .aperture
  else
    match b.active.select (blockOf a) with
    | none => .unmapped
    | some i => b.classifyIn h k a i

/-! ## Validation (R81 to R84) -/

/-- A failure of validation: result code, first index, second index. -/
structure ValidationFailure where
  code : CommitCode
  first : Nat
  second : Option Nat
deriving DecidableEq, Repr

/-- The checks on one valid window, in the order of R82. -/
def Bank.checkWindow (b : Bank) (i : WinIx) : Option ValidationFailure :=
  let w := b.windows[i]
  if !w.valid then none
  else if w.limit.toNat < w.base.toNat then some ⟨.badWindow, i.val, none⟩
  else if w.destKind = 3 then some ⟨.badWindow, i.val, none⟩
  else if w.destKind = 0 && decide (6 ≤ w.destPort.toNat) then some ⟨.badWindow, i.val, none⟩
  else if (w.destKind = 0 || w.destKind = 1) &&
      decide (2 ^ 24 ≤ w.translationBase.toNat + (w.limit.toNat - w.base.toNat)) then
    some ⟨.badWindow, i.val, none⟩
  else if w.destKind = 1 && !(b.groups[w.group]).valid then some ⟨.badGroup, w.group.val, some i.val⟩
  else none

/-- The members in use of a group (R65). -/
def Group.members (g : Group) : List (BitVec 3) :=
  [g.member0, g.member1, g.member2, g.member3].take g.memberCount.toNat

/-- A valid group meets the conditions of R83. -/
def Group.legal (g : Group) : Bool :=
  (g.memberCount == 2 || g.memberCount == 4) && g.members.all (fun c => decide (c.toNat < 6)) &&
    decide g.members.Nodup && g.granuleCode != 3

/-- The checks on one valid group (R83). -/
def Bank.checkGroup (b : Bank) (i : GroupIx) : Option ValidationFailure :=
  let g := b.groups[i]
  if g.valid && !g.legal then some ⟨.badGroup, i.val, none⟩ else none

/-- The check on one pair of windows (R84). -/
def Bank.checkPair (b : Bank) (i j : WinIx) : Option ValidationFailure :=
  let v := b.windows[i]
  let w := b.windows[j]
  if i.val < j.val && v.valid && w.valid && v.level == w.level && decide (v.base.toNat ≤ w.limit.toNat) &&
      decide (w.base.toNat ≤ v.limit.toNat) then
    some ⟨.overlap, i.val, some j.val⟩
  else none

/-- Validation of a bank: windows, groups, pairs, stopping at the first failure (R81). -/
def Bank.validate (b : Bank) : Option ValidationFailure :=
  (List.finRange 32).findSome? b.checkWindow <|>
  (List.finRange 4).findSome? b.checkGroup <|>
  (List.finRange 32).findSome? fun i => (List.finRange 32).findSome? fun j => b.checkPair i j

end Sys2Proof.Machine
end

