-- ==== Sys2Proof/Machine/Ops.lean ====
section
/-! DEFINITION. The operations the commands share: ports and queues, egress room, the ORT and its derived map
and counts, fault reports, leaving UP, the commit swap, the notification channel, the completion of an
aperture access. -/

namespace Sys2Proof.Machine

/-! ## Updates of one part of the state -/

/-- Changes one host port unit. -/
def State.setHost (s : State) (h : HPort) (f : HostPort → HostPort) : State :=
  { s with hosts := s.hosts.set h (f s.hosts[h]) }

/-- Changes one target port unit. -/
def State.setTarget (s : State) (d : DPort) (f : TargetPort → TargetPort) : State :=
  { s with targets := s.targets.set d (f s.targets[d]) }

/-- The port unit of a port. -/
def State.link (s : State) (p : Port) : PortUnit :=
  match p with
  | .host h => s.hosts[h].link
  | .target d => s.targets[d].link

/-- Changes the port unit of a port. -/
def State.setLink (s : State) (p : Port) (f : PortUnit → PortUnit) : State :=
  match p with
  | .host h => s.setHost h fun x => { x with link := f x.link }
  | .target d => s.setTarget d fun x => { x with link := f x.link }

/-- Changes one ORT entry. -/
def State.setEntry (s : State) (e : EntryIx) (f : Entry → Entry) : State :=
  { s with tracker := { s.tracker with ort := s.tracker.ort.set e (f s.tracker.ort[e]) } }

/-- Sets the condition of one host port's head (R98). -/
def State.setHead (s : State) (h : HPort) (c : HeadCondition) : State :=
  { s with admission := { s.admission with heads := s.admission.heads.set h c } }

/-- A wake event of R113 is taken: admission owes a pass. -/
def State.wake (s : State) : State := { s with admission := { s.admission with passDue := true } }

/-- The wake event of a target port's change of state (R113); a host port's is none. -/
def State.wakeTarget (s : State) (p : Port) : State :=
  match p with
  | .host _ => s
  | .target _ => s.wake

/-- The moment an event is taken whose earliest moment is `m`: time has passed at least to it (log entry 4). -/
def State.reach (s : State) (m : Nat) : State := { s with now := max s.now m }

/-! ## Durations, in µs (R42, R138, R193, R96) -/

/-- t_TRN: the least training attempt window (R42). -/
def tTrnMin : Nat := 1900

/-- t_EXP of a timeout code; code 0 gives none (R42). -/
def tExp (code : Fin 8) : Option Nat :=
  match code with
  | 0 => none
  | 1 => some 64
  | 2 => some 256
  | 3 => some 1000
  | 4 => some 4000
  | 5 => some 16000
  | 6 => some 64000
  | 7 => some 256000

/-- t_QRT of a timeout code; code 0 gives 256 ms (R138). -/
def tQrt (code : Fin 8) : Nat := (tExp code).getD 256000

/-- t_RNT of a t_RNT code (R193). -/
def tRntOf (code : Nat) : Nat :=
  match code with
  | 0 => 1000
  | 1 => 2000
  | 2 => 5000
  | 3 => 10000
  | 4 => 50000
  | 5 => 100000
  | _ => 500000

/-- t_DRN of a drain deadline setting in ms (R96). -/
def tDrnOf (n : Nat) : Nat := n * 1000

/-! ## Ports and queues -/

/-- The link carries packets (R13, R14). -/
def LinkState.carries (l : LinkState) : Bool := l == .up || l == .isolated

/-- The ingress queue has room (R13). -/
def PortUnit.hasIngressRoom (u : PortUnit) : Bool := decide (u.ingress.length < Config.ingressCapacity)

/-- The queues emptied. -/
def PortUnit.emptied (u : PortUnit) : PortUnit := { u with ingress := [], egress := [] }

/-- The port unit of a port taken to `new` with count 0, t_TRN stopped and both queues empty (R20). -/
def PortUnit.closed (u : PortUnit) (new : LinkState) : PortUnit :=
  { u.emptied with state := new, attempts := 0, tTrn := none }

/-- Host port in UP. -/
def State.hostUp (s : State) (h : HPort) : Bool := s.hosts[h].link.state == .up

/-- Target port in UP. -/
def State.targetUp (s : State) (d : DPort) : Bool := s.targets[d].link.state == .up

/-- Host port holds grant (R197). -/
def State.granted (s : State) (h : HPort) : Bool := s.mgmt.grant.getLsbD h.val

/-- Removes the head of a port's ingress queue. -/
def State.popIngress (s : State) (p : Port) : State := s.setLink p fun u => { u with ingress := u.ingress.tail }

/-- Places a packet at the tail of a target egress queue (R108). -/
def State.placeTarget (s : State) (d : DPort) (p : Packet) : State :=
  s.setLink (.target d) fun u => { u with egress := u.egress ++ [p] }

/-! ## Room in a host port's egress queue (R30, R31) -/

/-- The class after a class in the order of R31. -/
def EgressClass.next : EgressClass → EgressClass
  | .localAnswer => .management
  | .management => .tracker
  | .tracker => .notification
  | .notification => .localAnswer

/-- The four classes from a pointer on. -/
def EgressClass.from (c : EgressClass) : List EgressClass := [c, c.next, c.next.next, c.next.next.next]

/-- The indices of a round-robin over `n` from a pointer on. -/
def rotation (n : Nat) [NeZero n] (p : Fin n) : List (Fin n) := (List.finRange n).map (p + ·)

/-- The channel has a first send waiting for room: IDLE, list not empty, supervisor UP (R186). -/
def State.sendWaits (s : State) : Bool :=
  s.notifier.channel == .idle && !s.notifier.items.isEmpty && s.hostUp s.mgmt.supervisor

/-- A producer class has a packet waiting for a host port's egress queue (R31). -/
def State.classWaits (s : State) (h : HPort) (c : EgressClass) : Bool :=
  match c with
  | .localAnswer => s.admission.heads[h] == .waiting .answerRoom || s.hosts[h].isolatedWaits
  | .management => (s.mgmt.answers[h]).isSome
  | .tracker => !(s.tracker.answers[h]).isEmpty ||
      s.tracker.waiting.toList.any fun w => (w.map (·.host)) == some h
  | .notification => s.mgmt.supervisor == h && (s.notifier.copy.isSome || s.sendWaits)

/-- A packet can enter a host port's egress queue: room, and the port UP or ISOLATED (R30). -/
def State.hostHasRoom (s : State) (h : HPort) : Bool :=
  s.hosts[h].link.state.carries && decide (s.hosts[h].link.egress.length < Config.hostEgressCapacity)

/-- R31 gives room at a host port to class `c`, which has a packet: there is room, and `c` is the first waiting
class at or after the pointer. -/
def State.givesRoom (s : State) (h : HPort) (c : EgressClass) : Bool :=
  s.hostHasRoom h &&
    s.hosts[h].classPtr.from.find? (fun x => x == c || s.classWaits h x) == some c

/-- Places a packet of class `c` in a host port's egress queue and moves the pointer past the class (R31). -/
def State.placeHost (s : State) (h : HPort) (c : EgressClass) (p : Packet) : State :=
  s.setHost h fun x =>
    { x with link := { x.link with egress := x.link.egress ++ [p] }, classPtr := c.next }

/-! ## The ORT, the host-tag map and the counts (chapter 7) -/

/-- WAITING or RECEIVING. -/
def Entry.inFlight (e : Entry) : Bool := e.state == .waiting || e.state == .receiving

/-- The entry has a pair in the host-tag map (R130). -/
def Entry.mapped (e : Entry) : Bool := e.inFlight && !e.orphaned && e.kind != .writeConverted

/-- The entry counts toward its host (R132). -/
def Entry.countsForHost (e : Entry) (h : HPort) : Bool := e.inFlight && !e.orphaned && e.host == h

/-- The entry counts toward its target (R133). -/
def Entry.countsForTarget (e : Entry) (d : DPort) : Bool := e.inFlight && e.target == d

/-- The host count of a host port (R132). -/
def Tracker.hostCount (t : Tracker) (h : HPort) : Nat := t.ort.toList.countP (·.countsForHost h)

/-- The target count of a target port (R133). -/
def Tracker.targetCount (t : Tracker) (d : DPort) : Nat := t.ort.toList.countP (·.countsForTarget d)

/-- The number of entries in one state (R203). -/
def Tracker.stateCount (t : Tracker) (st : EntryState) : Nat := t.ort.toList.countP (·.state == st)

/-- The number of entries in flight (R89). -/
def Tracker.inFlightCount (t : Tracker) : Nat := t.ort.toList.countP (·.inFlight)

/-- The lowest-numbered FREE entry (R127). -/
def Tracker.lowestFree (t : Tracker) : Option EntryIx := (List.finRange 128).find? fun e => (t.ort[e]).state == .free

/-- The host-tag map: the entry that holds a pair of host port and host tag (R130). -/
def Tracker.tagHolder (t : Tracker) (h : HPort) (tag : Byte) : Option EntryIx :=
  (List.finRange 128).find? fun e => (t.ort[e]).mapped && (t.ort[e]).host == h && (t.ort[e]).hostTag == tag

/-- The D-tag of an entry: index times 2 plus phase (R128). -/
def dTag (e : EntryIx) (phase : Bool) : Byte := BitVec.ofNat 8 (e.val * 2 + phase.toNat)

/-- The entry a D-tag names (R128). -/
def tagEntry (t : Byte) : EntryIx := ⟨t.toNat / 2, by have := t.isLt; omega⟩

/-- The phase a D-tag names (R128). -/
def tagPhase (t : Byte) : Bool := t.toNat % 2 == 1

/-- The entry freed: its deadlines absent, every other field kept (R124, R137). -/
def Entry.freed (e : Entry) : Entry := { e with state := .free, deadline := none, quarantine := none }

/-- The entry quarantined until `m` (R124, R138). -/
def Entry.quarantinedUntil (e : Entry) (m : Nat) : Entry :=
  { e with state := .quarantined, deadline := none, quarantine := some m }

/-- The host tag a fault record shows for an entry: a converted write has none (R160). -/
def Entry.faultTag (e : Entry) : Option Byte := if e.kind = .writeConverted then none else some e.hostTag

/-- The packet is the request under a D-tag (R129). -/
def Packet.isRequestUnder (p : Packet) (t : Byte) : Bool :=
  (p.kind == some .rdq || p.kind == some .waq) && p.tag == t

/-- Withdraws the unsent request of an entry from its target's egress queue (R157). -/
def State.withdrawRequest (s : State) (e : EntryIx) : State :=
  let x := s.tracker.ort[e]
  s.setLink (.target x.target) fun u =>
    { u with egress := u.egress.filter fun p => !p.isRequestUnder (dTag e x.phase) }

/-! ## The commit swap (R91) -/

/-- The commit result record of a commit that ends with this code (R95). -/
def State.endCommit (s : State) (r : CommitResult) : State :=
  { s with commit := { s.commit with engine := .idle, tDrn := none, result := r } }

/-- The swap: staging copied into active, the generation raised by one, DONE, and the pause lifted (R91). -/
def State.swap (s : State) : State :=
  let g := s.banks.generation + 1
  ({ s with banks := { s.banks with active := s.banks.staging, generation := g } }.endCommit
    { code := .done, first := none, second := none, generation := g }).wake

/-- The drain's completion: the swap is taken at the event that takes the last entry out of flight (R89), after that
event's reports, which so carry the generation of the table under which the fault arose (R92; log entry 9). -/
def State.drainCheck (s : State) : State :=
  if s.commit.engine = .draining ∧ s.tracker.inFlightCount = 0 then s.swap else s

/-! ## Packets of the tracker (R153 to R155) -/

/-- The first item of a host's answer list whose target is `d`. -/
def Tracker.answerFrom (t : Tracker) (h : HPort) (d : DPort) : Option AnswerItem :=
  (t.answers[h]).find? (·.target == d)

/-- The packet waiting for host `h` at the ingress head of `d`. -/
def Tracker.waitingFrom (t : Tracker) (h : HPort) (d : DPort) : Option Produced :=
  (t.waiting[d]).filter (·.host == h)

/-- A candidate of R155: a packet at an ingress head, or an item of the answer list. -/
inductive Candidate where
  | head (p : Produced)
  | item (a : AnswerItem)
deriving DecidableEq, Repr

/-- The candidate of target port `d` for host port `h`: the older of the two in production order (R155). -/
def Tracker.candidate (t : Tracker) (h : HPort) (d : DPort) : Option Candidate :=
  match t.waitingFrom h d, t.answerFrom h d with
  | none, none => none
  | some p, none => some (.head p)
  | none, some a => some (.item a)
  | some p, some a => if p.order < a.order then some (.head p) else some (.item a)

/-- The first target port at or after the pointer that has a candidate (R155). -/
def Tracker.nextCandidate (t : Tracker) (h : HPort) : Option (DPort × Candidate) :=
  (rotation 6 t.pointers[h]).findSome? fun d => (t.candidate h d).map fun c => (d, c)

/-- Moves a host port's pointer past a target port (R155). -/
def Tracker.pointPast (t : Tracker) (h : HPort) (d : DPort) : Tracker := { t with pointers := t.pointers.set h (d + 1) }

/-- The tracker places the candidate of the next target port, if R31 gives room to TRACKER (R155). An item that
leaves the answer list is a wake event (R113). -/
def State.placeTracker (s : State) (h : HPort) : State :=
  if s.givesRoom h .tracker then
    match s.tracker.nextCandidate h with
    | none => s
    | some (d, .head p) =>
      let s := s.placeHost h .tracker p.packet
      { s with tracker := { s.tracker.pointPast h d with waiting := s.tracker.waiting.set d none } }.popIngress
        (.target d)
    | some (d, .item a) =>
      let s := s.placeHost h .tracker (cpsPacket a.hostTag a.status)
      { s with tracker := { s.tracker.pointPast h d with
          answers := s.tracker.answers.set h (s.tracker.answers[h].erase a) } }.wake
  else s

/-- Appends an answer of the tracker to a host's answer list; it is placed at once if room is given (R30, R154). -/
def State.appendAnswer (s : State) (h : HPort) (tag : Byte) (st : Status) (d : DPort) : State :=
  let a : AnswerItem := { hostTag := tag, status := st, target := d, order := s.tracker.nextOrder }
  { s with tracker := { s.tracker with
      answers := s.tracker.answers.set h (s.tracker.answers[h] ++ [a])
      nextOrder := s.tracker.nextOrder + 1 } }.placeTracker h

/-- A packet produced from the completion at `d`'s ingress head waits there for its host; it is placed at once if
room is given (R30, R153). -/
def State.produce (s : State) (d : DPort) (h : HPort) (p : Packet) : State :=
  { s with tracker := { s.tracker with
      waiting := s.tracker.waiting.set d (some { host := h, packet := p, order := s.tracker.nextOrder })
      nextOrder := s.tracker.nextOrder + 1 } }.placeTracker h

/-! ## The notification channel (chapter 10) -/

/-- The payload of a notification (R205). -/
def notificationPayload (seq : Seq) (i : PendingItem) (lost : Bool) : List Byte :=
  let flags (isFault : Bool) : Byte :=
    (if isFault then 1 else 0) ||| (if i.sent then 2 else 0) ||| (if lost then 0x80 else 0)
  match i.kind with
  | .alert dev sev code arg =>
    leBytes 2 seq.toNat ++ [flags false, BitVec.ofNat 8 (portCode i.source),
      sev.code.setWidth 8 <<< 4 ||| dev.setWidth 8, i.repeatCount] ++ leBytes 2 code.toNat ++
      leBytes 4 arg.toNat ++ leBytes 2 0 ++ [0, 0]
  | .fault k fs =>
    leBytes 2 seq.toNat ++ [flags true, BitVec.ofNat 8 (portCode i.source), 0, i.repeatCount] ++
      leBytes 2 k.code.val ++ leBytes 4 0 ++ leBytes 2 fs.toNat ++ [0, 0]

/-- The packet of a notification: a 16-byte WPQ with tag zero to the notification address (R4, R186). -/
def notificationPacket (a : Addr) (seq : Seq) (i : PendingItem) (lost : Bool) : Packet :=
  { kindCode := Kind.wpq.code, length := 16, address := a, payload := notificationPayload seq i lost }

/-- A first send, in one event (R186): the sequence assigned, the head marked sent, the packet placed,
notices-lost cleared, t_RNT started. -/
def State.sendNotification (s : State) : State :=
  if s.sendWaits && s.givesRoom s.mgmt.supervisor .notification then
    match s.notifier.items with
    | [] => s
    | i :: rest =>
      let i := { i with sent := true }
      let p := notificationPacket s.notifier.address s.notifier.sequence i s.notifier.noticesLost
      let s := s.placeHost s.mgmt.supervisor .notification p
      { s with notifier := { s.notifier with
          items := i :: rest, channel := .awaitingAck, sequence := s.notifier.sequence + 1,
          outstanding := some { sequence := s.notifier.sequence, packet := p }, resends := 0,
          tRnt := some (s.now + tRntOf s.notifier.tRntCode), noticesLost := false } }
  else s

/-- A waiting copy enters the supervisor's egress queue if R31 gives room to NOTIFICATION (R188). -/
def State.placeCopy (s : State) : State :=
  match s.notifier.copy with
  | none => s
  | some p =>
    if s.givesRoom s.mgmt.supervisor .notification then
      let s := s.placeHost s.mgmt.supervisor .notification p
      { s with notifier := { s.notifier with copy := none } }
    else s

/-- A copy of the outstanding notification is presented to the supervisor, if it is UP; it replaces one that still
waits (R188). -/
def State.presentCopy (s : State) : State :=
  match s.notifier.outstanding with
  | none => s
  | some o =>
    if s.hostUp s.mgmt.supervisor then
      { s with notifier := { s.notifier with copy := some o.packet } }.placeCopy
    else { s with notifier := { s.notifier with copy := none } }

/-- Appends an item to a pending list with a free place, and judges a send (R181, R183, R186). -/
def State.appendItem (s : State) (i : PendingItem) : State :=
  { s with notifier := { s.notifier with items := s.notifier.items ++ [i] } }.sendNotification

/-- The pending list holds fewer than 8 items (R179, R183). -/
def State.listHasRoom (s : State) : Bool := decide (s.notifier.items.length < Config.pendingCapacity)

/-- A fault notice: a FAULT item appended, or dropped with notices-lost set (R183). -/
def State.notice (s : State) (k : FaultKind) (p : Port) (seq : Seq) : State :=
  if s.listHasRoom then
    s.appendItem { kind := .fault k seq, source := p, repeatCount := 1, sent := false }
  else { s with notifier := { s.notifier with noticesLost := true } }

/-! ## Fault reports (chapter 9) -/

/-- What a block reports: a fault record without its sequence and generation, and the header capture (R166). -/
structure Report where
  kind : FaultKind
  port : Port
  entry : Option EntryIx := none
  hostTag : Option Byte := none
  window : Option WinIx := none
  address : Option Addr := none
  detail : Detail := .none
  capture : Option HeaderCapture := none
deriving DecidableEq, Repr

/-- The outcome of an isolation request (R175). -/
inductive IsolationOutcome where
  | carriedOut | withheld | noEffect
deriving DecidableEq, Repr

/-- An isolation of a host port is withheld: it holds grant, it is UP, and no other host port does both (R38). -/
def State.withholds (s : State) (p : Port) : Bool :=
  match p with
  | .host h => s.granted h && s.hostUp h && (List.finRange 4).all fun g => g == h || !(s.granted g && s.hostUp g)
  | .target _ => false

/-- The port unit judges an isolation request (R37). -/
def State.judgeIsolation (s : State) (p : Port) : IsolationOutcome :=
  if (s.link p).state ≠ .up then .noEffect
  else if s.withholds p then .withheld
  else .carriedOut

/-- The class of a fault kind (R165). -/
def State.classOf (s : State) (k : FaultKind) : FaultClass := s.mgmt.classes[k.code]

/-- A record appended to the fault queue, or dropped with overflow set; the sequence is consumed (R168, R169). -/
def Recorder.enqueue (r : Recorder) (f : FaultRecord) : Recorder :=
  if r.queue.length < Config.faultQueueCapacity then
    { r with queue := r.queue ++ [f], sequence := r.sequence + 1 }
  else { r with overflow := true, sequence := r.sequence + 1 }

/-- The snapshot filled if EMPTY, marked if HELD (R172). -/
def Recorder.snap (r : Recorder) (f : FaultRecord) (c : Option HeaderCapture) : Recorder :=
  if r.snapshot.held then { r with snapshot := { r.snapshot with multiple := true } }
  else { r with snapshot := { r.snapshot with held := true, record := some f, capture := c } }

/-- The record a report forms, with ISOLATION_WITHHELD as its detail if so judged (R166, R167). -/
def State.formRecord (s : State) (r : Report) (o : IsolationOutcome) : FaultRecord :=
  { sequence := s.recorder.sequence, kind := r.kind, port := r.port, entry := r.entry, hostTag := r.hostTag,
    window := r.window, address := r.address, generation := s.banks.generation,
    detail := if o = .withheld then .isolationWithheld else r.detail }

/-- The outcome of the isolation request a report of this class makes (R167, R175). -/
def State.reportOutcome (s : State) (r : Report) : IsolationOutcome :=
  if s.classOf r.kind = .isolate then s.judgeIsolation r.port else .noEffect

/-- Steps 2 and 3 of R167: the record is numbered and queued or dropped. -/
def State.queueRecord (s : State) (f : FaultRecord) : State := { s with recorder := s.recorder.enqueue f }

/-- Steps 4 and 5 of R167: the snapshot and the notice. -/
def State.snapAndNotice (s : State) (f : FaultRecord) (c : Option HeaderCapture) : State :=
  { s with recorder := s.recorder.snap f c }.notice f.kind f.port f.sequence

/-- One report taken by the fault recorder (R167). A carried-out isolation takes the port to ISOLATED at the report;
its leave-UP effects follow (`State.report`). -/
def State.takeReport (s : State) (r : Report) : State :=
  let c := s.classOf r.kind
  let o := s.reportOutcome r
  let f := s.formRecord r o
  let s := if o = .carriedOut then s.setLink r.port fun u => { u with state := .isolated } else s
  match c with
  | .ignore => s
  | .record => s.queueRecord f
  | .notify => (s.queueRecord f).snapAndNotice f r.capture
  | .isolate => (s.queueRecord f).snapAndNotice f r.capture

/-! ## Completion of an aperture access (R117, R200) -/

/-- A port's head condition leaves HELD (R98, R117). -/
def State.leaveHeld (s : State) (h : HPort) : State :=
  if s.admission.heads[h] = .held then
    s.setHead h (if s.hostUp h && !s.hosts[h].link.ingress.isEmpty then .presented else .noHead)
  else s

/-- Sets the command result word (R199). -/
def State.setResult (s : State) (code : Byte) (o : CommandOutcome) : State :=
  { s with mgmt := { s.mgmt with result := { code := code, outcome := o } } }

/-- The code of BRIDGE_RESET (R205). -/
def bridgeResetCode : Byte := 0x3F

/-- The access-complete event's end: the management unit FREE, the port no longer HELD, a wake event (R113, R117). -/
def State.freeUnit (s : State) (h : HPort) : State :=
  ({ s with mgmt := { s.mgmt with unit := .free } }.leaveHeld h).wake

/-- The access of a command of R200 completes, and the action of one that was taken becomes the unit's next event (R200,
R201). -/
def State.completeSelf (s : State) (a : Access) (act : Option SelfAction) : State :=
  let s := { s with mgmt := { s.mgmt with action := act } }
  (if act = some .warmReset then s.setResult bridgeResetCode .done else s).freeUnit a.port

/-- If the management unit waits for the answer of port `h` to leave its hands, the access completes (R200). -/
def State.answerGone (s : State) (h : HPort) : State :=
  match s.mgmt.unit with
  | .answering a act => if a.port = h then s.completeSelf a act else s
  | _ => s

/-- Clears the waiting MANAGEMENT answer of a port. -/
def State.clearAnswer (s : State) (h : HPort) : State :=
  { s with mgmt := { s.mgmt with answers := s.mgmt.answers.set h none } }

/-- A waiting MANAGEMENT answer enters its port's egress queue if R31 gives room (R117); a wake event. -/
def State.enterAnswer (s : State) (h : HPort) : State :=
  match s.mgmt.answers[h] with
  | none => s
  | some p =>
    if s.givesRoom h .management then (((s.placeHost h .management p).clearAnswer h).wake).answerGone h else s

/-- A waiting MANAGEMENT answer whose port no longer carries packets is discarded (R30, R35, R200). -/
def State.discardAnswer (s : State) (h : HPort) : State :=
  match s.mgmt.answers[h] with
  | none => s
  | some _ => (s.clearAnswer h).answerGone h

/-- An answer presented to its port's egress queue in class MANAGEMENT, or discarded (R30, R35, R117). -/
def State.presentAnswer (s : State) (h : HPort) (p : Option Packet) : State :=
  match p with
  | none => s
  | some p =>
    if s.hosts[h].link.state.carries then
      { s with mgmt := { s.mgmt with answers := s.mgmt.answers.set h (some p) } }.enterAnswer h
    else s

/-! ## Leaving UP (section 2.5) -/

/-- The tracker orphans a host port's entries in flight (R159). -/
def State.orphan (s : State) (h : HPort) : State :=
  { s with tracker := { s.tracker with
      ort := Vector.ofFn fun e : EntryIx =>
        let x := s.tracker.ort[e]
        if x.inFlight && x.host == h then { x with orphaned := true } else x
      answers := s.tracker.answers.set h [] } }

/-- The packets waiting for a host port at target ingress heads are withdrawn, each with its completion (R153). -/
def State.withdrawWaiting (s : State) (h : HPort) : State :=
  { s with
    targets := Vector.ofFn fun d : DPort =>
      let x := s.targets[d]
      if (s.tracker.waitingFrom h d).isSome then
        { x with link := { x.link with ingress := x.link.ingress.tail } }
      else x
    tracker := { s.tracker with
      waiting := Vector.ofFn fun d : DPort =>
        if (s.tracker.waitingFrom h d).isSome then none else s.tracker.waiting[d] } }

/-- The read latch of a host port emptied (R198). -/
def State.emptyLatch (s : State) (h : HPort) : State :=
  { s with mgmt := { s.mgmt with latches := s.mgmt.latches.set h none } }

/-- A copy waiting for room at the supervisor port `h` is withdrawn (R191). -/
def State.withdrawCopy (s : State) (h : HPort) : State :=
  if s.mgmt.supervisor = h then { s with notifier := { s.notifier with copy := none } } else s

/-- Whether a host port's leaving UP to `new` discards its waiting MANAGEMENT answer: it carries no packets there
(R30), or the answer is BRIDGE_RESET's (R201, log entry 7). -/
def State.losesAnswer (s : State) (h : HPort) (new : LinkState) : Bool :=
  !new.carries ||
  match s.mgmt.unit with
  | .answering a act => a.port == h && act == some .warmReset
  | _ => false

/-- The leave-UP effects of a host port (R35, R159): queues emptied, head ended, entries orphaned, waiting packets
withdrawn, latch emptied. -/
def State.hostLeavesUp (s : State) (h : HPort) (new : LinkState) : State :=
  let s := s.setHost h fun x => { x with link := { x.link.emptied with state := new }, isolatedWaits := false }
  let s := (((((s.setHead h .noHead).withdrawWaiting h).orphan h).emptyLatch h).withdrawCopy h).wake
  if s.losesAnswer h new then s.discardAnswer h else s

/-- The tracker frees every entry of a target port (R158). -/
def State.freeEntriesOf (s : State) (d : DPort) : State :=
  { s with tracker := { s.tracker with
      ort := Vector.ofFn fun e : EntryIx =>
        let x := s.tracker.ort[e]
        if x.state != .free && x.target == d then x.freed else x } }

/-- The number of entries a purge frees (R158). -/
def Tracker.heldBy (t : Tracker) (d : DPort) : Nat := t.ort.toList.countP fun x => x.state != .free && x.target == d

/-- The answers a purge owes for entries, in ascending entry index (R158). -/
def Tracker.purgeAnswers (t : Tracker) (d : DPort) : List (HPort × Byte) :=
  (t.ort.toList.filter fun x => x.mapped && x.target == d).map fun x => (x.host, x.hostTag)

/-- The answer a purge owes for the packet waiting at the ingress head, if it is a final one and its host is UP
(R158). -/
def State.headAnswer (s : State) (d : DPort) : List (HPort × Byte) :=
  match s.tracker.waiting[d] with
  | some p => if p.packet.final && s.hostUp p.host then [(p.host, p.packet.tag)] else []
  | none => []

/-- Appends a purge's UNREACHABLE answers in order (R158). -/
def State.answerAll (s : State) (d : DPort) (l : List (HPort × Byte)) : State :=
  l.foldl (fun s x => s.appendAnswer x.1 x.2 .unreachable d) s

/-- The LINK_LOST report of a purge (R158, R160). -/
def purgeReport (d : DPort) (n : Nat) : Report := { kind := .linkLost, port := .target d, detail := .count n }

/-- The leave-UP effects of a target port (R34, R158): queues emptied, entries purged, hosts answered UNREACHABLE,
LINK_LOST reported once if the port held an entry or a packet; then a drain that the purge emptied is complete (R89). -/
def State.targetLeavesUp (s : State) (d : DPort) (new : LinkState) : State :=
  let u := s.targets[d].link
  let n := s.tracker.heldBy d
  let owed := s.headAnswer d ++ s.tracker.purgeAnswers d
  let s := s.setLink (.target d) fun u => { u.emptied with state := new }
  let s := { s with tracker := { s.tracker with waiting := s.tracker.waiting.set d none } }
  let s := ((s.freeEntriesOf d).wake).answerAll d owed
  (if n ≠ 0 || !u.ingress.isEmpty || !u.egress.isEmpty then s.takeReport (purgeReport d n) else s).drainCheck

/-- The effects of a port's leaving UP for `new` (section 2.5). -/
def State.leavesUp (s : State) (p : Port) (new : LinkState) : State :=
  match p with
  | .host h => s.hostLeavesUp h new
  | .target d => s.targetLeavesUp d new

/-- The reports of one event, taken in order (R177); the leave-UP effects of the isolations carried out follow them
(R161, R167). DESIGN CHOICE, unsafe (log entry 13): they follow within the same step, so no other event comes between an
isolating report and its effects: neither another block's report before the purge's LINK_LOST (R175) nor the host's
acceptance of the answer just placed (R111). -/
def State.report (s : State) (rs : List Report) : State :=
  match rs with
  | [] => s
  | r :: rest =>
    let o := s.reportOutcome r
    let s := (s.takeReport r).report rest
    if o = .carriedOut then s.leavesUp r.port .isolated else s

/-- A port taken to `new`, DOWN or DISABLED, from any state: leave-UP effects if it was UP, queues emptied, t_TRN
stopped, count 0 (R20, R26, R27). -/
def State.takeDown (s : State) (p : Port) (new : LinkState) : State :=
  let s := if (s.link p).state = .up then s.leavesUp p new else s
  let s := s.setLink p fun u => u.closed new
  match p with
  | .host h => (s.setHost h fun x => { x with isolatedWaits := false }).discardAnswer h
  | .target _ => s.wake

/-- An isolation carried out on a port: ISOLATED with the leave-UP effects (R37). -/
def State.isolate (s : State) (p : Port) : State := s.leavesUp p .isolated

/-- An isolation request of the notification unit or of a judged command (R37, R182). -/
def State.requestIsolation (s : State) (p : Port) : State :=
  if s.judgeIsolation p = .carriedOut then s.isolate p else s

end Sys2Proof.Machine
end

