-- ==== Sys2Proof/Machine/Admission.lean ====
section
/-! DEFINITION. The admission unit (chapter 6): the decision of one evaluation, what it does, the pass over the
host ports, and the acceptance of an aperture access. -/

namespace Sys2Proof.Machine

/-! ## The decision of an evaluation (R99) -/

/-- An admission: its entry kind, none for an untracked posted write, and what the classification routed it to
(R106, R108). -/
structure Admitted where
  kind : Option EntryKind
  window : WinIx
  target : DPort
  address : Addr
  generation : Seq
deriving DecidableEq, Repr

/-- What an evaluation decides of a head (R98, R99). -/
inductive Decision where
  | answer (p : Packet) (fault : Option Report)
  | drop (fault : Option Report)
  | divert
  | wait (r : WaitReason)
  | admitting (x : Admitted)
deriving DecidableEq, Repr

/-- The request is posted and receives no answer (R4). -/
def Packet.posted (p : Packet) : Bool := p.kind == some .wpq

/-- A fault that admission or the management unit reports of a host's request (R110). -/
def requestReport (k : FaultKind) (port : Port) (p : Packet) (w : Option WinIx) : Report :=
  { kind := k, port := port, hostTag := if p.posted then none else some p.tag, window := w,
    address := some p.address, capture := some p.capture }

/-- A refusal: a CPS under the header's tag, or a drop of a posted write, with its fault (R100, R101, R103, R105). -/
def refuse (p : Packet) (st : Status) (f : Report) : Decision :=
  if p.posted then .drop (some f) else .answer (cpsPacket p.tag st) (some f)

/-- The bridge's own answer for a DISCARD window (R57, R104). -/
def discardAnswerOf (p : Packet) : Decision :=
  match p.kind with
  | some .rdq => .answer (cpdPacket p.tag (List.replicate p.length.toNat 0xFF)) none
  | some .waq => .answer (cpsPacket p.tag .ok) none
  | _ => .drop none

/-- The entry kind of a request that reaches check 7, none for an untracked posted write (R106). -/
def trackedAs (p : Packet) (convert : Bool) : Option EntryKind :=
  match p.kind with
  | some .rdq => some .read
  | some .waq => some .writeAck
  | _ => if convert then some .writeConverted else none

/-- The target egress queue is full (R107). -/
def State.egressFull (s : State) (d : DPort) : Bool :=
  decide (Config.targetEgressCapacity ≤ s.targets[d].link.egress.length)

/-- The missing resources of a tracked request of `h` toward `d` (R107). -/
def State.missing (s : State) (h : HPort) (d : DPort) : Missing :=
  { hostCount := decide (s.hosts[h].outstandingLimit ≤ s.tracker.hostCount h)
    targetCount := decide (s.targets[d].outstandingLimit ≤ s.tracker.targetCount d)
    ortEntry := s.tracker.lowestFree.isNone
    egressSlot := s.egressFull d
    answerRoom := decide (Config.answerRoomBound ≤ s.tracker.hostCount h + (s.tracker.answers[h]).length) }

/-- Some resource is missing. -/
def Missing.any (m : Missing) : Bool :=
  m.hostCount || m.targetCount || m.ortEntry || m.egressSlot || m.answerRoom

/-- The missing resources of an untracked posted write: the target egress slot alone (R107). -/
def onlySlotMissing : Missing :=
  { hostCount := false, targetCount := false, ortEntry := false, egressSlot := true, answerRoom := false }

/-- The entry that holds the request's host tag, for a request whose tag is looked up (R106). -/
def State.duplicateOf (s : State) (h : HPort) (p : Packet) (k : EntryKind) : Option EntryIx :=
  if k = .writeConverted then none else s.tracker.tagHolder h p.tag

/-- Checks 7 and 8 for a request routed to a target in UP (R106 to R108). -/
def State.decideRouted (s : State) (h : HPort) (p : Packet) (convert : Bool) (x : Admitted) : Decision :=
  match trackedAs p convert with
  | none => if s.egressFull x.target then .wait (.resource onlySlotMissing) else .admitting { x with kind := none }
  | some k =>
    match s.duplicateOf h p k with
    | some e => .drop (some { requestReport .duplicateTag (.host h) p none with entry := some e })
    | none =>
      if (s.missing h x.target).any then .wait (.resource (s.missing h x.target))
      else .admitting { x with kind := some k }

/-- Checks 4 to 8 (R103 to R108). -/
def State.decideClassified (s : State) (h : HPort) (p : Packet) (c : Classification) : Decision :=
  match c with
  | .aperture => .divert
  | .unmapped => refuse p .unmapped (requestReport .unmappedAddress (.host h) p none)
  | .refused w => refuse p .denied (requestReport .accessDenied (.host h) p (some w))
  | .discard _ => discardAnswerOf p
  | .routed w d a convert g =>
    if s.targetUp d then
      s.decideRouted h p convert { kind := none, window := w, target := d, address := a, generation := g }
    else refuse p .unreachable (requestReport .targetUnreachable (.target d) p (some w))

/-- The decision of an evaluation of a head, check by check (R99). -/
def State.decideHead (s : State) (h : HPort) (p : Packet) : Decision :=
  if !p.wellFormedRequest then refuse p .malformed (requestReport .malformedRequest (.host h) p none)
  else if blockOf p.address = s.mgmt.apertureBase then
    if s.granted h then .divert else refuse p .denied (requestReport .mgmtDenied (.host h) p none)
  else if s.commit.engine = .draining then .wait .pause
  else s.decideClassified h p (s.banks.classify s.mgmt.apertureBase h p.kind p.address)

/-! ## What a decision does -/

/-- Removes a head; the packet behind it is presented (R98). -/
def State.removeHead (s : State) (h : HPort) : State :=
  let s := s.popIngress (.host h)
  s.setHead h (if s.hosts[h].link.ingress.isEmpty then .noHead else .presented)

/-- The kind code of the packet sent to a target (R15, R55). -/
def sentKind (p : Packet) (k : Option EntryKind) : Byte :=
  if k = some .writeConverted then Kind.waq.code else p.kindCode

/-- The request packet sent to a target, under its D-tag or with tag zero (R3 to R5, R15). -/
def requestPacket (p : Packet) (x : Admitted) (tag : Byte) : Packet :=
  { kindCode := sentKind p x.kind, tag := tag, length := p.length, address := x.address, payload := p.payload }

/-- The entry as allocation leaves it (R108, R124); a converted write's host tag keeps its earlier value. -/
def Entry.allocated (e : Entry) (h : HPort) (p : Packet) (x : Admitted) (k : EntryKind) (deadline : Option Nat) :
    Entry :=
  { state := .waiting, phase := !e.phase, kind := k, host := h,
    hostTag := if k = .writeConverted then e.hostTag else p.tag,
    target := x.target, address := x.address, length := p.length, delivered := 0, window := x.window,
    generation := x.generation, sent := false, orphaned := false, absorbed := k == .writeConverted,
    deadline := deadline, quarantine := none }

/-- The deadline of a request admitted now toward `d` (R136). -/
def State.deadlineFor (s : State) (d : DPort) : Option Nat := (tExp s.targets[d].timeoutCode).map (s.now + ·)

/-- Allocation of an entry and placing of the request under its D-tag (R108, R127, R128). -/
def State.allocate (s : State) (h : HPort) (p : Packet) (x : Admitted) (k : EntryKind) (e : EntryIx) : State :=
  let dl := s.deadlineFor x.target
  (s.setEntry e fun y => y.allocated h p x k dl).placeTarget x.target
    (requestPacket p x (dTag e (!(s.tracker.ort[e]).phase)))

/-- Admission toward a target in one event (R108); the pointer moves past the host port (R116). -/
def State.admitting (s : State) (h : HPort) (p : Packet) (x : Admitted) : State :=
  let s :=
    match x.kind, s.tracker.lowestFree with
    | none, _ => s.placeTarget x.target (requestPacket p x 0)
    | some k, some e => s.allocate h p x k e
    | some _, none => s
  let s := s.removeHead h
  { s with admission := { s.admission with pointer := h + 1 } }

/-- The fault of an outcome, if it has one, reported after the head is removed (R109, R111). -/
def State.reportMaybe (s : State) (f : Option Report) : State := s.report f.toList

/-- A local answer: placed with its head removed and its fault reported if room is held for it or R31 gives room to
LOCAL, else the head waits for answer room (R109). An isolation by that fault follows in the same step, before the host
can accept the answer (R111; DESIGN CHOICE, log entry 13). -/
def State.answerLocally (s : State) (h : HPort) (roomHeld : Bool) (p : Packet) (f : Option Report) : State :=
  if roomHeld || s.givesRoom h .localAnswer then
    ((s.placeHost h .localAnswer p).removeHead h).reportMaybe f
  else s.setHead h (.waiting .answerRoom)

/-- What a decision does (R98). A diversion leaves the head waiting for the management unit; the pass accepts one
of the diverted heads (R114, R117). -/
def State.applyDecision (s : State) (h : HPort) (roomHeld : Bool) (p : Packet) (d : Decision) : State :=
  match d with
  | .answer a f => s.answerLocally h roomHeld a f
  | .drop f => (s.removeHead h).reportMaybe f
  | .divert => s.setHead h (.waiting .management)
  | .wait r => s.setHead h (.waiting r)
  | .admitting x => s.admitting h p x

/-- One evaluation of a host port's head (R98, R99). -/
def State.evaluate (s : State) (h : HPort) (roomHeld : Bool) : State :=
  match s.hosts[h].link.ingress with
  | [] => s
  | p :: _ => s.applyDecision h roomHeld p (s.decideHead h p)

/-! ## Passes (R114, R117, R118) -/

/-- The head is PRESENTED or WAITING (R113). -/
def HeadCondition.evaluable : HeadCondition → Bool
  | .presented => true
  | .waiting _ => true
  | _ => false

/-- A head a pass diverted that the management unit could accept: no answer of its port waits (R117). -/
def State.acceptable (s : State) (h : HPort) : Bool :=
  s.admission.heads[h] == .waiting .management && (s.mgmt.answers[h]).isNone

/-- The management unit is free to accept an access: FREE, with no action of R200 due first. -/
def State.unitFree (s : State) : Bool := s.mgmt.unit == .free && s.mgmt.action == none

/-- The management unit accepts a head: removed, HELD, the unit BUSY, the pointer past the port (R117, R118). -/
def State.accept (s : State) (h : HPort) : State :=
  match s.hosts[h].link.ingress with
  | [] => s
  | p :: _ =>
    let s := (s.popIngress (.host h)).setHead h .held
    { s with
      admission := { s.admission with mgmtPointer := h + 1 }
      mgmt := { s.mgmt with unit := .accessing { port := h, packet := p } } }

/-- The management unit takes the first acceptable candidate at or after its pointer (R118). -/
def State.acceptOne (s : State) (candidates : List HPort) : State :=
  if s.unitFree then
    match (rotation 4 s.admission.mgmtPointer).find? fun h => candidates.contains h && s.acceptable h with
    | none => s
    | some h => s.accept h
  else s

/-- One evaluation within a pass: only a head that is PRESENTED or WAITING is evaluated (R113). -/
def State.visit (s : State) (h : HPort) : State :=
  if (s.admission.heads[h]).evaluable then s.evaluate h false else s

/-- A pass over the host ports, in pointer order fixed when it begins (R114). -/
def State.pass (s : State) : State :=
  let order := rotation 4 s.admission.pointer
  (order.foldl State.visit s).acceptOne order

/-- The pass flag cleared. -/
def State.clearWake (s : State) : State := { s with admission := { s.admission with passDue := false } }

/-- The passes that wake events owe, at most `n`. -/
def State.settleIn : Nat → State → State
  | 0, s => s.clearWake
  | n + 1, s => if s.admission.passDue then State.settleIn n s.clearWake.pass else s

/-- The passes a step owes (R113). A pass can itself cause one by isolating a host port, at most once for each of
the four, so five suffice. -/
def State.settle (s : State) : State := s.settleIn 5

/-- R31 has given room to LOCAL: the port's head alone is evaluated anew with the room held (R109). -/
def State.evaluateLocal (s : State) (h : HPort) : State :=
  ((s.setHost h fun x => { x with classPtr := EgressClass.localAnswer.next }).evaluate h true).acceptOne [h]

end Sys2Proof.Machine
end

