-- ==== Sys2Proof/Machine/Flags.lean ====
section
/-! DEFINITION. What the aperture shows (R43, R59, R77, R95, R141, R170, R172, R184, R185, R203, R205): the words of
status, record and setting views, and the read under a port's latch (R198). -/

namespace Sys2Proof.Machine

/-- The identification words (R203). -/
def State.identificationWord (s : State) (i : Fin 3) : Word :=
  match i with
  | 0 => placedNat 0 0x0C3B ||| placedNat 16 0x4610 ||| placedNat 32 0x01
  | 1 => placedNat 0 4 ||| placedNat 8 6 ||| placedNat 16 32 ||| placedNat 24 4 ||| placedNat 32 128
      ||| placedNat 40 16 ||| placedNat 48 8
  | 2 => placedNat 0 (s.tracker.stateCount .free) ||| placedNat 16 (s.tracker.stateCount .waiting)
      ||| placedNat 32 (s.tracker.stateCount .receiving) ||| placedNat 48 (s.tracker.stateCount .quarantined)

/-- An index of the commit result record; an absent one is shown as 255 (R95). -/
def shownIndex (i : Option Nat) : Nat := i.getD 255

/-- The code of the engine state (R205). -/
def EngineState.code : EngineState → Nat
  | .idle => 0
  | .validating _ => 1
  | .draining => 2

/-- The mode of the running commit is DRAIN; shown as IMMEDIATE when the engine is IDLE (R95). -/
def EngineState.isDrain : EngineState → Bool
  | .idle => false
  | .validating m => m == .drain
  | .draining => true

/-- The commit status words (R95). -/
def State.commitWord (s : State) (i : Fin 2) : Word :=
  match i with
  | 0 => placedNat 0 s.commit.result.code.code ||| placedNat 8 (shownIndex s.commit.result.first)
      ||| placedNat 16 (shownIndex s.commit.result.second) ||| placed 32 s.commit.result.generation
  | 1 => placedNat 0 s.commit.engine.code ||| placedBit 4 s.commit.engine.isDrain ||| placed 32 s.banks.generation

/-- A port's count from the tracker (R43). -/
def State.trackerCount (s : State) (p : Port) : Nat :=
  match p with
  | .host h => s.tracker.hostCount h
  | .target d => s.tracker.targetCount d

/-- The words of a port record (R43). -/
def State.portWord (s : State) (p : Port) (i : Fin 4) : Word :=
  let u := s.link p
  match i with
  | 0 => placedNat 0 u.state.code ||| placedNat 8 u.attempts ||| placedNat 16 u.ingress.length
      ||| placedNat 24 u.egress.length ||| placedNat 32 (s.trackerCount p)
  | 1 =>
    match p with
    | .host h => placedNat 0 u.attemptLimit ||| placedNat 8 s.hosts[h].outstandingLimit
    | .target _ => placedNat 0 u.attemptLimit
  | 2 =>
    match p with
    | .host _ => 0
    | .target d => placedNat 0 s.targets[d].outstandingLimit ||| placedNat 8 s.targets[d].timeoutCode.val
        ||| placed 12 s.targets[d].threshold.code ||| placedBit 16 s.targets[d].isolateOnFailing
  | 3 => 0

/-- The words of an ORT entry record (R141). -/
def Entry.word (e : Entry) (i : Fin 2) : Word :=
  match i with
  | 0 => placedNat 0 e.state.code ||| placedBit 2 e.phase ||| placedNat 4 e.kind.code ||| placedNat 8 e.host.val
      ||| placedNat 12 e.target.val ||| placedBit 16 e.sent ||| placedBit 17 e.orphaned ||| placedBit 18 e.absorbed
      ||| placedBit 19 e.deadline.isSome ||| placed 24 e.hostTag ||| placed 32 e.length ||| placedNat 44 e.delivered
      ||| placedNat 56 e.window.val
  | 1 => placed 0 e.address ||| placed 48 e.generation

/-- The fault queue counters (R168, R169). -/
def Recorder.countersWord (r : Recorder) : Word :=
  placedNat 0 r.queue.length ||| placedBit 8 r.overflow ||| placed 16 r.sequence

/-- The code of a detail (R205). -/
def Detail.code : Detail → Nat
  | .none => 0
  | .notSent => 1
  | .absorbed => 2
  | .isolationWithheld => 3
  | .count _ => 4

/-- The count a detail carries, zero for the others (R205). -/
def Detail.number : Detail → Nat
  | .count n => n
  | _ => 0

/-- Word 0 of a fault record; bit 0 and bit 1 are the view's own (R205). -/
def FaultRecord.word0 (f : FaultRecord) : Word :=
  placedNat 8 f.kind.code.val ||| placedNat 16 (portCode f.port) ||| placed 32 f.sequence
    ||| placedNat 48 f.detail.code ||| placedNat 56 f.detail.number

/-- Word 1 of a fault record; absent fields are zero beside their presence bit (R205). -/
def FaultRecord.word1 (f : FaultRecord) : Word :=
  (match f.entry with
    | some e => placedNat 0 e.val ||| placedBit 7 true
    | none => 0) |||
  (match f.hostTag with
    | some t => placed 8 t ||| placedBit 16 true
    | none => 0) |||
  (match f.window with
    | some w => placedNat 24 w.val ||| placedBit 31 true
    | none => 0) ||| placed 32 f.generation

/-- Word 2 of a fault record. -/
def FaultRecord.word2 (f : FaultRecord) : Word :=
  match f.address with
  | some a => placed 0 a ||| placedBit 63 true
  | none => 0

/-- The fault queue head view; all zero while the queue is empty (R170). -/
def Recorder.headWord (r : Recorder) (i : Fin 3) : Word :=
  match r.queue with
  | [] => 0
  | f :: _ =>
    match i with
    | 0 => placedBit 0 true ||| f.word0
    | 1 => f.word1
    | 2 => f.word2

/-- The first-fault snapshot view: in EMPTY the fields of the last record held (R172). -/
def Snapshot.word (n : Snapshot) (i : Fin 5) : Word :=
  match i with
  | 0 => placedBit 0 n.held ||| placedBit 1 n.multiple ||| ((n.record.map FaultRecord.word0).getD 0)
  | 1 => (n.record.map FaultRecord.word1).getD 0
  | 2 => (n.record.map FaultRecord.word2).getD 0
  | 3 =>
    match n.capture with
    | some c => placedBit 0 true ||| placed 8 c.kindCode ||| placed 16 c.tag ||| placed 24 c.length
    | none => 0
  | 4 => (n.capture.map fun c => placed 0 c.address).getD 0

/-- The channel state word (R185). -/
def Notifier.channelWord (n : Notifier) : Word :=
  placedNat 0 n.channel.code ||| placedNat 4 n.resends ||| placedBit 8 n.noticesLost
    ||| placedBit 9 n.outstanding.isSome ||| placed 16 ((n.outstanding.map (·.sequence)).getD 0)
    ||| placed 32 n.sequence

/-- The words of a pending-list item (R184); a FAULT item's device, severity and argument are zero (R183). -/
def PendingItem.word (i : PendingItem) (w : Fin 2) : Word :=
  match w with
  | 0 =>
    placedBit 1 i.sent ||| placedNat 8 (portCode i.source) ||| placed 24 i.repeatCount |||
    (match i.kind with
      | .alert dev sev code _ => placed 16 dev ||| placed 20 sev.code ||| placed 32 code
      | .fault k fs => placedBit 0 true ||| placedNat 32 k.code.val ||| placed 48 fs)
  | 1 =>
    match i.kind with
    | .alert _ _ _ arg => placed 0 arg
    | .fault _ _ => 0

/-- A pending position; at or beyond the occupancy it reads zero (R205). -/
def Notifier.itemWord (n : Notifier) (i : Fin 8) (w : Fin 2) : Word :=
  match n.items[i.val]? with
  | some x => x.word w
  | none => 0

/-- The notification address word: the enable is the channel's being out of DISABLED (R185, R190). -/
def Notifier.addressWord (n : Notifier) : Word := placed 0 n.address ||| placedBit 63 (n.channel != .disabled)

/-- The live value of an aperture word; unassigned offsets, the command word and the acknowledge word read zero
(R187, R196, R199). -/
def State.liveWord (s : State) (r : Reg) : Word :=
  match r with
  | .identification i => s.identificationWord i
  | .grantSet => placed 0 s.mgmt.grant
  | .supervisorPort => placedNat 0 s.mgmt.supervisor.val
  | .apertureBase => placed 0 s.mgmt.apertureBase
  | .notificationAddress => s.notifier.addressWord
  | .tRntCode => placedNat 0 s.notifier.tRntCode
  | .resendLimit => placedNat 0 s.notifier.resendLimit
  | .drainDeadline => placedNat 0 s.commit.drainDeadline
  | .commandWord => 0
  | .commandResult => placed 0 s.mgmt.result.code ||| placedNat 8 s.mgmt.result.outcome.code
  | .commitStatus i => s.commitWord i
  | .portRecord p i => s.portWord p i
  | .faultClass k => placed 0 (s.classOf k).code
  | .faultCounters => s.recorder.countersWord
  | .faultHead i => s.recorder.headWord i
  | .snapshot i => s.recorder.snapshot.word i
  | .channelState => s.notifier.channelWord
  | .acknowledge => 0
  | .pendingOccupancy => placedNat 0 s.notifier.items.length
  | .pendingItem n i => s.notifier.itemWord n i
  | .stagingWindow n i => (s.banks.staging.windows[n]).word i
  | .stagingGroup n i => (s.banks.staging.groups[n]).word i
  | .activeWindow n i => (s.banks.active.windows[n]).word i
  | .activeGroup n i => (s.banks.active.groups[n]).word i
  | .ortEntry e i => (s.tracker.ort[e]).word i
  | .unassigned => 0

/-! ## Read latches (R198) -/

/-- The latched record a word belongs to and its place in it; none for single words, staging records and active
groups (R198). -/
def Reg.latched (r : Reg) : Option (RecordId × Nat) :=
  match r with
  | .portRecord p i => some (.portRecord p, i.val)
  | .commitStatus i => some (.commitStatus, i.val)
  | .activeWindow n i => some (.activeWindow n, i.val)
  | .ortEntry e i => some (.ortEntry e, i.val)
  | .faultHead i => some (.faultHead, i.val)
  | .snapshot i => some (.snapshot, i.val)
  | .pendingItem n i => some (.pendingItem n, i.val)
  | _ => none

/-- All the words of a record as they stand. -/
def State.recordWords (s : State) (r : RecordId) : List Word :=
  match r with
  | .portRecord p => (List.finRange 4).map fun i => s.liveWord (.portRecord p i)
  | .commitStatus => (List.finRange 2).map fun i => s.liveWord (.commitStatus i)
  | .activeWindow n => (List.finRange 4).map fun i => s.liveWord (.activeWindow n i)
  | .ortEntry e => (List.finRange 2).map fun i => s.liveWord (.ortEntry e i)
  | .faultHead => (List.finRange 3).map fun i => s.liveWord (.faultHead i)
  | .snapshot => (List.finRange 5).map fun i => s.liveWord (.snapshot i)
  | .pendingItem n => (List.finRange 2).map fun i => s.liveWord (.pendingItem n i)

/-- The latched copy of a record for a port, if its latch holds that record (R198). -/
def State.latchedWords (s : State) (h : HPort) (r : RecordId) : Option (List Word) :=
  match s.mgmt.latches[h] with
  | some l => if l.record = r then some l.words else none
  | none => none

/-- The value a read by a port returns (R196, R198). -/
def State.readValue (s : State) (h : HPort) (r : Reg) : Word :=
  match r.latched with
  | some (rec, i + 1) =>
    match s.latchedWords h rec with
    | some ws => ws.getD (i + 1) 0
    | none => s.liveWord r
  | _ => s.liveWord r

/-- A read of word 0 of a latched record copies the record into the port's latch (R198). -/
def State.latchOnRead (s : State) (h : HPort) (r : Reg) : State :=
  match r.latched with
  | some (rec, 0) =>
    { s with mgmt := { s.mgmt with
        latches := s.mgmt.latches.set h (some { record := rec, words := s.recordWords rec }) } }
  | _ => s

end Sys2Proof.Machine
end

