-- ==== Sys2Proof/Machine/Link.lean ====
section
/-! DEFINITION. The events of the links (chapters 1 and 2): partner detection, training, link loss, a packet's
arrival and a partner's acceptance. An event that the state does not enable is ignored (R20; log entry 8). -/

namespace Sys2Proof.Machine

/-- A step that leads to a next state. -/
abbrev Result := Host.Outcome State Fault Refusal

/-- The next state of a step, after the passes its wake events owe (R113). -/
def settled (s : State) : Result := .next s.settle

/-- A training attempt begins: count up by one, t_TRN started (R21). -/
def State.beginAttempt (s : State) (p : Port) : State :=
  s.setLink p fun u =>
    { u with state := .training, attempts := u.attempts + 1, tTrn := some (s.now + tTrnMin) }

/-- A training attempt ends as a failure: another attempt below the limit, else FAILED with its fault (R21, R22). -/
def State.attemptFails (s : State) (p : Port) : State :=
  if (s.link p).attempts < (s.link p).attemptLimit then s.beginAttempt p
  else
    ((s.setLink p fun u => { u with state := .failed, tTrn := none }).wakeTarget p).report
      [{ kind := .trainingFailed, port := p }]

/-- The supervisor entering UP is one of the events at which a send is judged (R186). -/
def State.judgeSend (s : State) (p : Port) : State :=
  match p with
  | .host _ => s.sendNotification
  | .target _ => s

/-- PARTNER_DETECTED (R20, R21). -/
def execPartnerDetected (p : Port) (s : State) : Result :=
  if (s.link p).state = .down then settled ((s.beginAttempt p).wakeTarget p) else .next s

/-- TRAINING_SUCCEEDS (R20, R21): UP, t_TRN stopped, count kept. -/
def execTrainingSucceeds (p : Port) (s : State) : Result :=
  if (s.link p).state = .training then
    settled (((s.setLink p fun u => { u with state := .up, tTrn := none }).wakeTarget p).judgeSend p)
  else .next s

/-- TRAINING_FAILS (R20 to R22). -/
def execTrainingFails (p : Port) (s : State) : Result :=
  if (s.link p).state = .training then settled (s.attemptFails p) else .next s

/-- T_TRN_EXPIRY (R20 to R22). -/
def execTTrnExpiry (p : Port) (s : State) : Result :=
  match (s.link p).state, (s.link p).tTrn with
  | .training, some m => settled ((s.reach m).attemptFails p)
  | _, _ => .next s

/-- What a host port must hold when it leaves UP for its link loss to be reported (R23). -/
def State.hostHolds (s : State) (h : HPort) : Bool :=
  s.tracker.hostCount h != 0 || !s.hosts[h].link.ingress.isEmpty || !s.hosts[h].link.egress.isEmpty

/-- The reports a link loss in UP makes beside a purge's (R23). -/
def State.linkLossReports (s : State) (p : Port) : List Report :=
  match p with
  | .host h => if s.hostHolds h then [{ kind := .linkLost, port := p }] else []
  | .target _ => []

/-- LINK_LOSS (R20, R21, R23). -/
def execLinkLoss (p : Port) (s : State) : Result :=
  match (s.link p).state with
  | .up => settled ((s.takeDown p .down).report (s.linkLossReports p))
  | .isolated => settled (s.takeDown p .down)
  | .training => settled (s.attemptFails p)
  | _ => .next s

/-- A packet appended to a port's ingress queue; in an empty queue of an UP host port it is presented (R98, R113). -/
def State.enqueue (s : State) (p : Port) (x : Packet) : State :=
  let s := s.setLink p fun u => { u with ingress := u.ingress ++ [x] }
  match p with
  | .host h => if s.admission.heads[h] = .noHead ∧ s.hostUp h then s.setHead h .presented else s
  | .target _ => s

/-- The fault of a packet that fails a check on arrival, none if it passes: size and integrity, then kind, then form
(R1, R9 to R11). -/
def arrivalFault (p : Port) (bs : List Byte) : Option Report :=
  if !packetSizeOk bs || !integrityOk bs then some { kind := .integrityError, port := p }
  else
    let x := parsePacket bs
    if kindLegalOn p x.kind && x.formOk then none
    else some { kind := .malformedPacket, port := p, capture := some x.capture }

/-- LINK_PACKET_ARRIVAL (R13, section 1.3). -/
def execLinkPacketArrival (p : Port) (bytes : List Byte) (s : State) : Result :=
  if (s.link p).state.carries && (s.link p).hasIngressRoom then
    match arrivalFault p bytes with
    | none => settled (s.enqueue p (parsePacket bytes))
    | some r => settled (s.report [r])
  else .next s

/-- The sent flag set for the entry whose request `d`'s partner has accepted (R14, R129). -/
def State.markSent (s : State) (d : DPort) (x : Packet) : State :=
  if x.kind = some .rdq ∨ x.kind = some .waq then
    s.setEntry (tagEntry x.tag) fun e =>
      if e.state = .waiting ∧ e.target = d ∧ e.phase = tagPhase x.tag then { e with sent := true } else e
  else s

/-- What a partner's acceptance does beside the packet's leaving (R14, R113). -/
def State.accepted (s : State) (p : Port) (x : Packet) : State :=
  match p with
  | .host _ => s
  | .target d => (s.markSent d x).wake

/-- PARTNER_ACCEPTS_PACKET (R14). -/
def execPartnerAcceptsPacket (p : Port) (s : State) : Result :=
  match (s.link p).state.carries, (s.link p).egress with
  | true, x :: rest => settled ((s.setLink p fun u => { u with egress := rest }).accepted p x)
  | _, _ => .next s

end Sys2Proof.Machine
end

