-- ==== Sys2Proof/Machine/Traffic.lean ====
section
/-! DEFINITION. The events of host heads and host egress room (chapters 2, 6 and 8): HEAD_PRESENTED and the placing of
packets when R31 gives room, and the heads of isolated ports. -/

namespace Sys2Proof.Machine

/-- HEAD_PRESENTED (R98, R113, R114): a head that is PRESENTED starts a pass. -/
def execHeadPresented (h : HPort) (s : State) : Result :=
  if s.admission.heads[h] = .presented then settled s.wake else .next s

/-- LOCAL_ANSWER_PLACED (R109): R31 gives room to LOCAL at a port whose head waits for answer room. -/
def execLocalAnswerPlaced (h : HPort) (s : State) : Result :=
  if s.admission.heads[h] = .waiting .answerRoom ∧ s.givesRoom h .localAnswer then settled (s.evaluateLocal h)
  else .next s

/-- MGMT_ANSWER_ENTERS (R117, R200): R31 gives room to a waiting MANAGEMENT answer. -/
def execMgmtAnswerEnters (h : HPort) (s : State) : Result := settled (s.enterAnswer h)

/-- The head of an isolated host port taken by its port unit (R39). -/
def State.takeIsolatedHead (s : State) (h : HPort) (p : Packet) : State :=
  if p.posted then s.popIngress (.host h)
  else if s.givesRoom h .localAnswer then
    ((s.placeHost h .localAnswer (cpsPacket p.tag .unreachable)).popIngress (.host h)).setHost h
      fun x => { x with isolatedWaits := false }
  else s.setHost h fun x => { x with isolatedWaits := true }

/-- ISOLATED_HOST_HEAD (R39). -/
def execIsolatedHostHead (h : HPort) (s : State) : Result :=
  match s.hosts[h].link.state, s.hosts[h].link.ingress with
  | .isolated, p :: _ => settled (s.takeIsolatedHead h p)
  | _, _ => .next s

/-- ISOLATED_TARGET_HEAD (R40): discarded without a match and without a fault. -/
def execIsolatedTargetHead (d : DPort) (s : State) : Result :=
  match s.targets[d].link.state, s.targets[d].link.ingress with
  | .isolated, _ :: _ => settled (s.popIngress (.target d))
  | _, _ => .next s

end Sys2Proof.Machine
end

