-- ==== Sys2Proof/Machine/Track.lean ====
section
/-! DEFINITION. The request tracker's events (chapter 8): completion matching, placing, expiry and quarantine end. -/

namespace Sys2Proof.Machine

/-! ## Matching (R146) -/

/-- How a completion finds the entry its D-tag names (R146). -/
inductive Match where
  | matched | late | unexpected
deriving DecidableEq, Repr

/-- The comparison of a completion from `d` under tag `t` with the named entry (R146). -/
def Entry.compare (e : Entry) (d : DPort) (t : Byte) : Match :=
  if e.target = d ∧ e.phase = tagPhase t then
    if e.inFlight && e.sent then .matched
    else if e.state = .quarantined then .late
    else .unexpected
  else .unexpected

/-- What a matched completion does at its entry and sends its host (R147). -/
inductive Handling where
  /-- a good chunk that is not final: bytes delivered raised by `n` -/
  | progress (n : Nat)
  /-- a good final chunk -/
  | finalChunk (n : Nat)
  /-- an ending by status: the status sent to the host and the faults in order of report -/
  | finalStatus (st : Status) (faults : List FaultKind)
  | mismatch
deriving DecidableEq, Repr

/-- The conditions of a good chunk (R148). -/
def Entry.goodChunk (e : Entry) (c : Packet) : Bool :=
  c.offset.toNat == e.delivered && decide (1 ≤ c.length.toNat) &&
    decide (c.offset.toNat + c.length.toNat ≤ e.length.toNat) &&
    c.final == (c.offset.toNat + c.length.toNat == e.length.toNat)

/-- The handling of a CPS by its status, for a kind whose failure is reported as `k` (R149 to R151). -/
def statusHandling (st : Byte) (k : FaultKind) : Handling :=
  if st = Status.ok.code then .finalStatus .ok []
  else if st = Status.aborted.code then .finalStatus .aborted [k]
  else .finalStatus .aborted [k, .completionMismatch]

/-- The handling of a matched completion by its entry's kind (R147 to R152). -/
def Entry.handling (e : Entry) (c : Packet) : Handling :=
  match e.kind, c.kind with
  | .read, some .cpd =>
    if e.goodChunk c then (if c.final then .finalChunk c.length.toNat else .progress c.length.toNat) else .mismatch
  | .read, _ =>
    match statusHandling c.status .targetAbort with
    | .finalStatus .ok _ => .mismatch
    | x => x
  | .writeAck, some .cps => statusHandling c.status .targetAbort
  | .writeConverted, some .cps => statusHandling c.status .absorbedWriteFailed
  | _, _ => .mismatch

/-- The entry after a handling at moment `now`, with the quarantine time of its target (R124, R126, R138). -/
def Entry.after (e : Entry) (x : Handling) (now tq : Nat) : Entry :=
  match x with
  | .progress n => { e with state := .receiving, delivered := e.delivered + n }
  | .finalChunk n => { e.freed with delivered := e.delivered + n }
  | .finalStatus _ _ => e.freed
  | .mismatch => e.quarantinedUntil (now + tq)

/-- A forwarded chunk: the target's, under the host tag (R15, R148). -/
def forwardChunk (tag : Byte) (c : Packet) : Packet :=
  { kindCode := Kind.cpd.code, tag := tag, length := c.length, offset := c.offset, final := c.final,
    status := c.status, payload := c.payload }

/-- The packet a handling sends the entry's host (R147). -/
def Entry.answer (e : Entry) (x : Handling) (c : Packet) : Packet :=
  match x with
  | .progress _ => forwardChunk e.hostTag c
  | .finalChunk _ => forwardChunk e.hostTag c
  | .finalStatus st _ => cpsPacket e.hostTag st
  | .mismatch => cpsPacket e.hostTag .aborted

/-- The faults a handling reports, in order (R149 to R152). -/
def Handling.faults : Handling → List FaultKind
  | .finalStatus _ fs => fs
  | .mismatch => [.completionMismatch]
  | _ => []

/-- The handling takes the entry out of flight (R126). -/
def Handling.ends : Handling → Bool
  | .progress _ => false
  | _ => true

/-- A tracker fault that names an entry, with the header of the completion that caused it (R160). -/
def entryReport (k : FaultKind) (ix : EntryIx) (e : Entry) (c : Option Packet) (detail : Detail) : Report :=
  { kind := k, port := .target e.target, entry := some ix, hostTag := e.faultTag, window := some e.window,
    address := some e.address, detail := detail, capture := c.map Packet.capture }

/-- The report of an unexpected completion (R160). -/
def unexpectedReport (d : DPort) (c : Packet) : Report :=
  { kind := .unexpectedCompletion, port := .target d, entry := some (tagEntry c.tag), capture := some c.capture }

/-- The host is sent a packet for the entry: not orphaned, and not a converted write (R147). -/
def Entry.answers (e : Entry) : Bool := !e.orphaned && e.kind != .writeConverted

/-- A matched completion handled at its entry (R145, R147); an entry that leaves flight is a wake event (R113), and after
the event's reports may complete the drain (R89). -/
def State.handle (s : State) (d : DPort) (ix : EntryIx) (c : Packet) : State :=
  let e := s.tracker.ort[ix]
  let x := e.handling c
  let tq := tQrt s.targets[d].timeoutCode
  let s := s.setEntry ix fun y => y.after x s.now tq
  let s := if x.ends then s.wake else s
  let s := if e.answers then s.produce d e.host (e.answer x c) else s.popIngress (.target d)
  (s.report (x.faults.map fun k => entryReport k ix e (some c) .none)).drainCheck

/-- The match of the completion at the head of a target port's ingress queue (R146). -/
def State.matchCompletion (s : State) (d : DPort) (c : Packet) : State :=
  let ix := tagEntry c.tag
  let e := s.tracker.ort[ix]
  match e.compare d c.tag with
  | .matched => s.handle d ix c
  | .late => (s.popIngress (.target d)).report [entryReport .lateCompletion ix e (some c) .none]
  | .unexpected => (s.popIngress (.target d)).report [unexpectedReport d c]

/-- The head of a target ingress queue is a completion not yet matched (R145). -/
def State.completionAt (s : State) (d : DPort) : Option Packet :=
  match s.targets[d].link.ingress with
  | c :: _ =>
    if s.targetUp d && (s.tracker.waiting[d]).isNone && (c.kind == some .cpd || c.kind == some .cps) then some c
    else none
  | [] => none

/-- COMPLETION_MATCH (R145 to R152). -/
def execCompletionMatch (d : DPort) (s : State) : Result :=
  match s.completionAt d with
  | some c => settled (s.matchCompletion d c)
  | none => .next s

/-- TRACKER_PACKET_PLACED (R155): R31 gives room to TRACKER. -/
def execTrackerPacketPlaced (h : HPort) (s : State) : Result := settled (s.placeTracker h)

/-! ## Expiry (R137, R156) -/

/-- The detail of a COMPLETION_TIMEOUT (R156). -/
def Entry.timeoutDetail (e : Entry) : Detail :=
  if !e.sent then .notSent else if e.kind = .writeConverted then .absorbed else .none

/-- The expiry of an entry in flight (R137, R156): sent, it is quarantined; unsent, its state alone becomes FREE (R124).
The drain may be complete after the report (R89). -/
def State.expire (s : State) (ix : EntryIx) : State :=
  let e := s.tracker.ort[ix]
  let tq := tQrt s.targets[e.target].timeoutCode
  let s :=
    if e.sent then s.setEntry ix fun y => y.quarantinedUntil (s.now + tq)
    else (s.withdrawRequest ix).setEntry ix fun y => { y with state := .free }
  let s := s.wake
  let s := if e.answers then s.appendAnswer e.host e.hostTag .expired e.target else s
  (s.report [entryReport .completionTimeout ix e none e.timeoutDetail]).drainCheck

/-- EXPIRY (R137, R156): an entry in flight with a deadline. -/
def execExpiry (e : EntryIx) (s : State) : Result :=
  match (s.tracker.ort[e]).inFlight, (s.tracker.ort[e]).deadline with
  | true, some m => settled ((s.reach m).expire e)
  | _, _ => .next s

/-- QUARANTINE_END (R138): FREE with the phase kept; a wake event. -/
def execQuarantineEnd (e : EntryIx) (s : State) : Result :=
  match (s.tracker.ort[e]).state, (s.tracker.ort[e]).quarantine with
  | .quarantined, some m => settled (((s.reach m).setEntry e Entry.freed).wake)
  | _, _ => .next s

end Sys2Proof.Machine
end

