-- ==== Sys2Proof/Machine/Notify.lean ====
section
/-! DEFINITION. The notification unit's events (chapter 10): alert intake, sends, re-sends and waiting copies. -/

namespace Sys2Proof.Machine

/-! ## Alert intake (R179 to R182) -/

/-- The 16-bit code of an alert (R8, R205). -/
def Packet.alertCode (p : Packet) : BitVec 16 := BitVec.ofNat 16 (leNat (p.payload.take 2))

/-- The 32-bit argument of an alert (R8, R205). -/
def Packet.alertArgument (p : Packet) : BitVec 32 := BitVec.ofNat 32 (leNat ((p.payload.drop 2).take 4))

/-- The severity of an alert; arrival lets none of severity 0 through (R11). -/
def Packet.alertSeverity (p : Packet) : Severity := (Severity.ofCode p.severity).getD .info

/-- Severities in order: INFO below DEGRADED below FAILING (R179). -/
def Severity.below (a b : Severity) : Bool := decide (a.code.toNat < b.code.toNat)

/-- The higher of two severities (R180). -/
def Severity.higher (a b : Severity) : Severity := if a.below b then b else a

/-- An unsent ALERT item with this source port, device and code (R179). -/
def PendingItem.coalesces (i : PendingItem) (d : DPort) (p : Packet) : Bool :=
  match i.kind with
  | .alert dev _ code _ => !i.sent && i.source == .target d && dev == p.device && code == p.alertCode
  | .fault _ _ => false

/-- An item an alert coalesces into: repeat count up by one to at most 255, severity the higher, argument kept
(R180). -/
def PendingItem.coalesced (i : PendingItem) (p : Packet) : PendingItem :=
  match i.kind with
  | .alert dev sev code arg =>
    { i with kind := .alert dev (sev.higher p.alertSeverity) code arg
             repeatCount := if i.repeatCount = 255 then 255 else i.repeatCount + 1 }
  | .fault _ _ => i

/-- The list with the first item the alert coalesces into changed (R180). -/
def coalesceInto (d : DPort) (p : Packet) : List PendingItem → List PendingItem
  | [] => []
  | i :: rest => if i.coalesces d p then i.coalesced p :: rest else i :: coalesceInto d p rest

/-- The item a new alert makes (R181). -/
def alertItem (d : DPort) (p : Packet) : PendingItem :=
  { kind := .alert p.device p.alertSeverity p.alertCode p.alertArgument, source := .target d, repeatCount := 1,
    sent := false }

/-- The fate of an alert, in the order of R179. -/
def State.takeAlert (s : State) (d : DPort) (p : Packet) : State :=
  if p.alertSeverity.below s.targets[d].threshold then s
  else if s.notifier.items.any (·.coalesces d p) then
    { s with notifier := { s.notifier with items := coalesceInto d p s.notifier.items } }
  else if s.listHasRoom then s.appendItem (alertItem d p)
  else s.report [{ kind := .alertOverflow, port := .target d }]

/-- The isolation request of a FAILING alert (R182). -/
def State.alertIsolates (s : State) (d : DPort) (p : Packet) : Bool :=
  p.alertSeverity == .failing && s.targets[d].isolateOnFailing

/-- ALERT_INTAKE (R179 to R182): the alert at an UP target port's head leaves the queue at this event. -/
def execAlertIntake (d : DPort) (s : State) : Result :=
  match s.targets[d].link.state, s.targets[d].link.ingress with
  | .up, p :: _ =>
    if p.kind = some .alm then
      let t := (s.popIngress (.target d)).takeAlert d p
      settled (if s.alertIsolates d p then t.requestIsolation (.target d) else t)
    else .next s
  | _, _ => .next s

/-! ## Sending (R186, R188) -/

/-- NOTIFICATION_SEND (R186): room is given to the waiting first send. -/
def execNotificationSend (s : State) : Result := settled s.sendNotification

/-- NOTIFICATION_COPY_PLACED (R188): room is given to the waiting copy. -/
def execNotificationCopyPlaced (s : State) : Result := settled s.placeCopy

/-- t_RNT restarted with the code in force (R188, R193). -/
def State.restartRnt (s : State) (resends : Nat) : State :=
  { s with notifier := { s.notifier with
      channel := .awaitingAck, resends := resends, tRnt := some (s.now + tRntOf s.notifier.tRntCode) } }

/-- The channel stalls: t_RNT stopped, a waiting copy withdrawn (R188). -/
def State.stall (s : State) : State :=
  { s with notifier := { s.notifier with channel := .stalled, tRnt := none, copy := none } }

/-- A t_RNT expiry in AWAITING_ACK (R188). -/
def State.renotify (s : State) : State :=
  if s.notifier.resends < s.notifier.resendLimit then (s.restartRnt (s.notifier.resends + 1)).presentCopy
  else s.stall

/-- T_RNT_EXPIRY (R188). -/
def execTRntExpiry (s : State) : Result :=
  match s.notifier.channel, s.notifier.tRnt with
  | .awaitingAck, some m => settled (s.reach m).renotify
  | _, _ => .next s

end Sys2Proof.Machine
end

