-- ==== Sys2Proof/Machine/Aperture.lean ====
section
/-! DEFINITION. The access-complete events of aperture reads and register writes (chapter 11 and the rules that own
the words). Each step acts on the access the management unit holds, if that access is of its kind (R117, R196). -/

namespace Sys2Proof.Machine

/-- The access the management unit executes, if step `i` is the one that ends it (R117, R196). -/
def State.accessFor (s : State) (i : Instr) : Option Access :=
  match s.mgmt.unit with
  | .accessing a => if a.step = i then some a else none
  | _ => none

/-- The access-complete event after the access's effect: the answer presented, the unit FREE, the port no longer HELD
(R117). -/
def State.completeAccess (s : State) (a : Access) (answer : Option Packet) : State :=
  (s.presentAnswer a.port answer).freeUnit a.port

/-- How a write ends (R196). -/
inductive WriteOutcome where
  | taken | denied | busy
deriving DecidableEq, Repr

/-- The status that answers a write (R196). -/
def WriteOutcome.status : WriteOutcome → Status
  | .taken => .ok
  | .denied => .denied
  | .busy => .busy

/-- The answer to an access by status; a posted write receives none (R196). -/
def Access.statusAnswer (a : Access) (st : Status) : Option Packet :=
  if a.packet.posted then none else some (cpsPacket a.packet.tag st)

/-- A register write that ends with an outcome: the access completes with its answer. -/
def endWrite (a : Access) (x : State × WriteOutcome) : Result :=
  settled (x.1.completeAccess a (a.statusAnswer x.2.status))

/-! ## The words' own rules -/

/-- A write to the grant set (R197). -/
def State.writeGrant (s : State) (v : Word) : State × WriteOutcome :=
  if bits v 0 4 = 0 then (s, .denied)
  else ({ s with mgmt := { s.mgmt with grant := bits v 0 4 } }, .taken)

/-- A write to the aperture base word (R195). -/
def State.writeBase (s : State) (v : Word) : State × WriteOutcome :=
  ({ s with mgmt := { s.mgmt with apertureBase := bits v 0 24 } }, .taken)

/-- A write to the supervisor port word: a copy waiting at the old port is withdrawn, a send is judged anew (R191,
R197), before the write's own answer (DESIGN CHOICE, log entry 23). -/
def State.writeSupervisor (s : State) (v : Word) : State × WriteOutcome :=
  let h : HPort := (bits v 0 2).toFin
  if h = s.mgmt.supervisor then (s, .taken)
  else
    ({ s with mgmt := { s.mgmt with supervisor := h }
              notifier := { s.notifier with copy := none } }.sendNotification, .taken)

/-- The channel disabled: t_RNT stopped, a waiting packet withdrawn, the outstanding sequence abandoned (R190). -/
def Notifier.disabled (n : Notifier) : Notifier :=
  { n with channel := .disabled, tRnt := none, copy := none, outstanding := none }

/-- A write of the channel enable and notification address (R190); a send it judges goes before the write's own answer
(DESIGN CHOICE, log entry 23). -/
def State.writeChannel (s : State) (v : Word) : State × WriteOutcome :=
  let a : Addr := bits v 0 44
  let aligned := a.toNat % 16 == 0
  if v.getLsbD 63 then
    if !aligned then (s, .denied)
    else if s.notifier.channel = .disabled then
      ({ s with notifier := { s.notifier with address := a, channel := .idle } }.sendNotification, .taken)
    else ({ s with notifier := { s.notifier with address := a } }, .taken)
  else
    let n := if aligned then { s.notifier with address := a } else s.notifier
    ({ s with notifier := n.disabled }, .taken)

/-- The sequence outstanding, in AWAITING_ACK and STALLED (R185). -/
def Notifier.outstandingSequence (n : Notifier) : Option Seq :=
  if n.channel = .awaitingAck ∨ n.channel = .stalled then n.outstanding.map (·.sequence) else none

/-- The notification acknowledged: head removed, IDLE, t_RNT stopped, a waiting copy withdrawn (R187). -/
def Notifier.acknowledged (n : Notifier) : Notifier :=
  { n with items := n.items.tail, channel := .idle, tRnt := none, copy := none, outstanding := none }

/-- A write to the acknowledge word (R187). DESIGN CHOICE, unsafe (log entry 23): the next send judged at once is part of
the effect, which R117 does before it presents the answer, so where the supervisor itself acknowledges the new notification
stands before the answer in its egress queue and takes a last free place ahead of it. -/
def State.writeAcknowledge (s : State) (v : Word) : State × WriteOutcome :=
  if s.notifier.outstandingSequence = some (bits v 0 16) then
    ({ s with notifier := s.notifier.acknowledged }.sendNotification, .taken)
  else (s, .denied)

/-- A write to a staging word: taken as written in IDLE, refused BUSY otherwise (R76); word 3 of a window record is
unassigned and refused DENIED in every state. -/
def State.writeStaging (s : State) (r : Reg) (v : Word) : State × WriteOutcome :=
  match r with
  | .stagingWindow n i =>
    if i = 3 then (s, .denied)
    else if s.commit.engine ≠ .idle then (s, .busy)
    else
      let b := s.banks.staging
      ({ s with banks := { s.banks with
          staging := { b with windows := b.windows.set n ((b.windows[n]).withWord i v) } } }, .taken)
  | .stagingGroup n i =>
    if s.commit.engine ≠ .idle then (s, .busy)
    else
      let b := s.banks.staging
      ({ s with banks := { s.banks with
          staging := { b with groups := b.groups.set n ((b.groups[n]).withWord i v) } } }, .taken)
  | _ => (s, .denied)

/-- An attempt limit in range (R41). -/
def attemptLimitOk (n : Nat) : Bool := decide (1 ≤ n) && decide (n ≤ 4)

/-- A host outstanding limit in range (R41). -/
def hostLimitOk (n : Nat) : Bool := decide (1 ≤ n) && decide (n ≤ 128)

/-- A value a target outstanding limit code names (R41). -/
def targetLimitOk (n : Nat) : Bool := n == 1 || n == 4 || n == 16 || n == 64 || n == 128

/-- A write to word 1 of a port record (R41). -/
def State.writePortLimits (s : State) (p : Port) (v : Word) : State × WriteOutcome :=
  let n := (bits v 0 3).toNat
  match p with
  | .host h =>
    let m := (bits v 8 8).toNat
    if attemptLimitOk n && hostLimitOk m then
      (s.setHost h fun x => { x with link := { x.link with attemptLimit := n }, outstandingLimit := m }, .taken)
    else (s, .denied)
  | .target d =>
    if attemptLimitOk n then (s.setTarget d fun x => { x with link := { x.link with attemptLimit := n } }, .taken)
    else (s, .denied)

/-- A write to word 2 of a D-port record (R41); word 2 of an H-port record is unassigned. -/
def State.writeTargetConfig (s : State) (p : Port) (v : Word) : State × WriteOutcome :=
  match p with
  | .host _ => (s, .denied)
  | .target d =>
    let m := (bits v 0 8).toNat
    match Severity.ofCode (bits v 12 2) with
    | none => (s, .denied)
    | some t =>
      if targetLimitOk m then
        (s.setTarget d fun x => { x with
          outstandingLimit := m, timeoutCode := (bits v 8 3).toFin, threshold := t, isolateOnFailing := v.getLsbD 16 },
          .taken)
      else (s, .denied)

/-- A write to a port record: words 0 and 3 are refused (R41, R43, R196). -/
def State.writePort (s : State) (r : Reg) (v : Word) : State × WriteOutcome :=
  match r with
  | .portRecord p 1 => s.writePortLimits p v
  | .portRecord p 2 => s.writeTargetConfig p v
  | _ => (s, .denied)

/-- A write to the fault class table (R165). -/
def State.writeClass (s : State) (r : Reg) (v : Word) : State × WriteOutcome :=
  match r with
  | .faultClass k =>
    let c := FaultClass.ofCode (bits v 0 2)
    if k.allows c then
      ({ s with mgmt := { s.mgmt with classes := s.mgmt.classes.set k.code c } }, .taken)
    else (s, .denied)
  | _ => (s, .denied)

/-- A write to any other word: the drain deadline (R96), the t_RNT code and the re-send limit (R193) by their ranges;
every other word is read-only or unassigned and refused DENIED (R196). -/
def State.writeSetting (s : State) (r : Reg) (v : Word) : State × WriteOutcome :=
  match r with
  | .tRntCode =>
    if (bits v 0 3).toNat ≤ 6 then ({ s with notifier := { s.notifier with tRntCode := (bits v 0 3).toNat } }, .taken)
    else (s, .denied)
  | .resendLimit => ({ s with notifier := { s.notifier with resendLimit := (bits v 0 3).toNat } }, .taken)
  | .drainDeadline =>
    if bits v 0 8 = 0 then (s, .denied)
    else ({ s with commit := { s.commit with drainDeadline := (bits v 0 8).toNat } }, .taken)
  | _ => (s, .denied)

/-! ## The steps -/

/-- ACKNOWLEDGE (R187). -/
def execAcknowledge (s : State) : Result :=
  match s.accessFor .acknowledge with
  | some a => endWrite a (s.writeAcknowledge a.value)
  | none => .next s

/-- CHANNEL_ENABLE_WRITE (R190). -/
def execChannelEnableWrite (s : State) : Result :=
  match s.accessFor .channelEnableWrite with
  | some a => endWrite a (s.writeChannel a.value)
  | none => .next s

/-- SUPERVISOR_PORT_WRITE (R191, R197). -/
def execSupervisorPortWrite (s : State) : Result :=
  match s.accessFor .supervisorPortWrite with
  | some a => endWrite a (s.writeSupervisor a.value)
  | none => .next s

/-- APERTURE_BASE_WRITE (R195). -/
def execApertureBaseWrite (s : State) : Result :=
  match s.accessFor .apertureBaseWrite with
  | some a => endWrite a (s.writeBase a.value)
  | none => .next s

/-- GRANT_SET_WRITE (R197). -/
def execGrantSetWrite (s : State) : Result :=
  match s.accessFor .grantSetWrite with
  | some a => endWrite a (s.writeGrant a.value)
  | none => .next s

/-- STAGING_WRITE (R76). -/
def execStagingWrite (s : State) : Result :=
  match s.accessFor .stagingWrite with
  | some a => endWrite a (s.writeStaging a.reg a.value)
  | none => .next s

/-- PORT_CONFIG_WRITE (R41, R43). -/
def execPortConfigWrite (s : State) : Result :=
  match s.accessFor .portConfigWrite with
  | some a => endWrite a (s.writePort a.reg a.value)
  | none => .next s

/-- FAULT_CLASS_WRITE (R165). -/
def execFaultClassWrite (s : State) : Result :=
  match s.accessFor .faultClassWrite with
  | some a => endWrite a (s.writeClass a.reg a.value)
  | none => .next s

/-- SETTING_WRITE (R96, R193, R196). -/
def execSettingWrite (s : State) : Result :=
  match s.accessFor .settingWrite with
  | some a => endWrite a (s.writeSetting a.reg a.value)
  | none => .next s

/-- The answer to a read: one CPD of 8 bytes (R196). -/
def State.readAnswer (s : State) (a : Access) : Packet :=
  cpdPacket a.packet.tag (leBytes 8 (s.readValue a.port a.reg).toNat)

/-- LATCHED_READ (R196, R198): every aperture read; a read of word 0 of a latched record fills the port's latch. -/
def execLatchedRead (s : State) : Result :=
  match s.accessFor .latchedRead with
  | some a => settled ((s.latchOnRead a.port a.reg).completeAccess a (some (s.readAnswer a)))
  | none => .next s

/-- MALFORMED_APERTURE_ACCESS (R196): answered, completed, then reported. -/
def execMalformedApertureAccess (s : State) : Result :=
  match s.accessFor .malformedApertureAccess with
  | some a =>
    settled ((s.completeAccess a (a.statusAnswer .malformed)).report
      [requestReport .malformedRequest (.host a.port) a.packet none])
  | none => .next s

end Sys2Proof.Machine
end

