-- ==== Sys2Proof/Machine/Commit.lean ====
section
/-! DEFINITION. The commit engine's steps and the commands that are taken within their own write (chapters 5, 9 to 11).
Each command step acts on the access the management unit holds (R117, R199). -/

namespace Sys2Proof.Machine

/-- How a command ends (R199): with a result the command result word takes, or refused BUSY. -/
inductive CommandReply where
  | result (o : CommandOutcome) | busy
deriving DecidableEq, Repr

/-- The status that answers a command (R199). -/
def CommandReply.status : CommandReply → Status
  | .result .denied => .denied
  | .result _ => .ok
  | .busy => .busy

/-- The command result word after a reply: a BUSY refusal leaves it as it was (R199). -/
def State.recordReply (s : State) (code : Byte) (r : CommandReply) : State :=
  match r with
  | .result o => s.setResult code o
  | .busy => s

/-- A command that ends with a reply: the result word, then the access completes with its answer. -/
def endCommand (a : Access) (x : State × CommandReply) : Result :=
  settled ((x.1.recordReply a.commandCode x.2).completeAccess a (a.statusAnswer x.2.status))

/-! ## COMMIT and RESEED_STAGING (R78, R80) -/

/-- The mode an argument names (R80, R205). -/
def modeOf (arg : Byte) : Option CommitMode :=
  if arg = 0 then some .immediate else if arg = 1 then some .drain else none

/-- COMMIT at the engine (R79, R80). -/
def State.takeCommit (s : State) (arg : Byte) : State × CommandReply :=
  if s.commit.engine ≠ .idle then (s, .busy)
  else
    match modeOf arg with
    | some m => ({ s with commit := { s.commit with engine := .validating m } }, .result .done)
    | none => (s, .result .denied)

/-- COMMIT (R80). -/
def execCommit (s : State) : Result :=
  match s.accessFor .commit with
  | some a => endCommand a (s.takeCommit a.argument)
  | none => .next s

/-- RESEED_STAGING at the banks (R78). -/
def State.takeReseed (s : State) : State × CommandReply :=
  if s.commit.engine ≠ .idle then (s, .busy)
  else ({ s with banks := { s.banks with staging := s.banks.active } }, .result .done)

/-- RESEED_STAGING (R78). -/
def execReseedStaging (s : State) : Result :=
  match s.accessFor .reseedStaging with
  | some a => endCommand a s.takeReseed
  | none => .next s

/-! ## Validation and drain (R85 to R90) -/

/-- A failed validation ends the commit (R85). -/
def State.failCommit (s : State) (f : ValidationFailure) : State :=
  s.endCommit { code := f.code, first := some f.first, second := f.second, generation := s.banks.generation }

/-- The engine enters DRAINING: admission pauses, t_DRN starts (R87). -/
def State.beginDrain (s : State) : State :=
  { s with commit := { s.commit with
      engine := .draining, tDrn := some (s.now + tDrnOf s.commit.drainDeadline) } }

/-- The validation-complete event (R85 to R87). -/
def State.endValidation (s : State) (m : CommitMode) : State :=
  match s.banks.staging.validate with
  | some f => s.failCommit f
  | none => if m = .drain ∧ s.tracker.inFlightCount ≠ 0 then s.beginDrain else s.swap

/-- VALIDATION_COMPLETE (R79, R81). -/
def execValidationComplete (s : State) : Result :=
  match s.commit.engine with
  | .validating m => settled (s.endValidation m)
  | _ => .next s

/-- DRAIN_COMPLETE (R89): with no entry in flight while DRAINING, the swap is taken. The event that empties the drain
takes it within its own step (`State.drainCheck`; log entry 9). -/
def execDrainComplete (s : State) : Result := settled s.drainCheck

/-- A commit given up: its code recorded with the generation as it stands, admission resumed (R90, R93). -/
def State.giveUpCommit (s : State) (c : CommitCode) : State :=
  s.endCommit { code := c, first := none, second := none, generation := s.banks.generation }

/-- T_DRN_EXPIRY (R90); lifting the pause is a wake event (R113). -/
def execTDrnExpiry (s : State) : Result :=
  match s.commit.engine, s.commit.tDrn with
  | .draining, some m => settled (((s.reach m).giveUpCommit .drainExpired).wake)
  | _, _ => .next s

/-! ## Commands to the fault recorder and the channel -/

/-- FAULT_POP at the recorder (R171). -/
def Recorder.pop (r : Recorder) : Recorder × CommandOutcome :=
  match r.queue with
  | [] => (r, .empty)
  | _ :: rest => ({ r with queue := rest, overflow := r.overflow && !rest.isEmpty }, .done)

/-- FAULT_POP (R171). -/
def execFaultPop (s : State) : Result :=
  match s.accessFor .faultPop with
  | some a => endCommand a ({ s with recorder := s.recorder.pop.1 }, .result s.recorder.pop.2)
  | none => .next s

/-- SNAPSHOT_RELEASE at the recorder (R173). -/
def Recorder.release (r : Recorder) : Recorder × CommandOutcome :=
  if r.snapshot.held then ({ r with snapshot := { r.snapshot with held := false, multiple := false } }, .done)
  else (r, .empty)

/-- SNAPSHOT_RELEASE (R173). -/
def execSnapshotRelease (s : State) : Result :=
  match s.accessFor .snapshotRelease with
  | some a => endCommand a ({ s with recorder := s.recorder.release.1 }, .result s.recorder.release.2)
  | none => .next s

/-- CHANNEL_REARM at the channel (R189); its copy goes before the command's own answer (DESIGN CHOICE, log entry 23). -/
def State.takeRearm (s : State) : State × CommandReply :=
  if s.notifier.channel = .stalled then ((s.restartRnt 0).presentCopy, .result .done)
  else (s, .result .denied)

/-- CHANNEL_REARM (R189). -/
def execChannelRearm (s : State) : Result :=
  match s.accessFor .channelRearm with
  | some a => endCommand a s.takeRearm
  | none => .next s

/-- UNKNOWN_COMMAND (R199): refused DENIED, the result word shows the code. -/
def execUnknownCommand (s : State) : Result :=
  match s.accessFor .unknownCommand with
  | some a => endCommand a (s, .result .denied)
  | none => .next s

end Sys2Proof.Machine
end

