-- ==== Sys2Proof/Machine/Command.lean ====
section
/-! DEFINITION. The port commands, the bridge reset and the three kinds of reset (sections 2.3, 11.5 and 11.6). -/

namespace Sys2Proof.Machine

/-- The port a port command's argument names (R24). -/
def Access.portArgument (a : Access) : Option Port := portOfCode a.argument.toNat

/-- A port command by its port argument: an argument that names no port is refused DENIED (R24). -/
def State.portCommand (s : State) (a : Access) (f : Port → State × CommandReply) : State × CommandReply :=
  match a.portArgument with
  | some p => f p
  | none => (s, .result .denied)

/-- A command of R200 that is judged: the unit stays BUSY until its answer, whatever outcome it carries, has entered
the egress queue, at once for a posted write or where the port carries no packets (R200, R201). `x` is the action of one
that was taken. -/
def State.beginSelf (s : State) (a : Access) (st : Status) (x : Option SelfAction) : State :=
  match a.statusAnswer st with
  | some p =>
    if s.hosts[a.port].link.state.carries then
      { s with mgmt := { s.mgmt with unit := .answering a x } }.presentAnswer a.port (some p)
    else s.completeSelf a x
  | none => s.completeSelf a x

/-- A command on the requester's own port: its result is set as it is judged, and its action follows its answer (R24,
R200; log entry 16). -/
def endOwnCommand (s : State) (a : Access) (o : CommandOutcome) (x : Option SelfAction) : Result :=
  settled ((s.setResult a.commandCode o).beginSelf a (CommandReply.result o).status x)

/-! ## PORT_ENABLE, PORT_RETRAIN, PORT_RESTORE (R25, R28) -/

/-- PORT_ENABLE on a port (R25). -/
def State.enablePort (s : State) (p : Port) : State × CommandReply :=
  if (s.link p).state = .disabled then
    ((s.setLink p fun u => { u with state := .down, attempts := 0 }).wakeTarget p, .result .done)
  else (s, .result .denied)

/-- PORT_ENABLE (R24, R25). On the requester's own port, DISABLED, the effect and the answer's discarding show no order:
neither DISABLED nor DOWN carries packets. -/
def execPortEnable (s : State) : Result :=
  match s.accessFor .portEnable with
  | some a => endCommand a (s.portCommand a s.enablePort)
  | none => .next s

/-- PORT_RETRAIN on a port (R25). -/
def State.retrainPort (s : State) (p : Port) : State × CommandReply :=
  if (s.link p).state = .failed then
    ((s.setLink p fun u => { u with state := .down, attempts := 0 }).wakeTarget p, .result .done)
  else (s, .result .denied)

/-- PORT_RETRAIN (R24, R25). On the requester's own port as PORT_ENABLE: neither FAILED nor DOWN carries packets. -/
def execPortRetrain (s : State) : Result :=
  match s.accessFor .portRetrain with
  | some a => endCommand a (s.portCommand a s.retrainPort)
  | none => .next s

/-- A port restored to UP: queues kept, an isolated host's unplaced answer withdrawn and its head presented (R28,
R39, R113). -/
def State.restore (s : State) (p : Port) : State :=
  let s := s.setLink p fun u => { u with state := .up }
  match p with
  | .host h =>
    let s := s.setHost h fun x => { x with isolatedWaits := false }
    (s.setHead h (if s.hosts[h].link.ingress.isEmpty then .noHead else .presented)).sendNotification
  | .target _ => s.wake

/-- PORT_RESTORE on a port (R28). -/
def State.restorePort (s : State) (p : Port) : State × CommandReply :=
  if (s.link p).state = .isolated then (s.restore p, .result .done) else (s, .result .denied)

/-- PORT_RESTORE (R24, R28). Taken on the requester's own port, which was isolated after the access was accepted, it acts
after its own answer, as the commands of R200 do (log entry 16). -/
def execPortRestore (s : State) : Result :=
  match s.accessFor .portRestore with
  | some a =>
    if a.portArgument = some (.host a.port) ∧ s.hosts[a.port].link.state = .isolated then
      endOwnCommand s a .done (some (.portRestore a.port))
    else endCommand a (s.portCommand a s.restorePort)
  | none => .next s

/-! ## PORT_RESET, PORT_DISABLE, PORT_ISOLATE (R26 to R28, R200) -/

/-- The action of PORT_RESET (R26): DOWN, and a host port's pointers and latch at their reset values (R31, R155,
R198). -/
def State.resetPort (s : State) (p : Port) : State :=
  let s := s.takeDown p .down
  match p with
  | .host h =>
    let s := (s.setHost h fun x => { x with classPtr := .localAnswer }).emptyLatch h
    { s with tracker := { s.tracker with pointers := s.tracker.pointers.set h 0 } }
  | .target _ => s

/-- The action of PORT_ISOLATE (R28): ISOLATED from UP, no effect elsewhere. -/
def State.isolatePort (s : State) (p : Port) : State := if (s.link p).state = .up then s.isolate p else s

/-- What a command on the requester's own port does to the port as it then stands (R20, R24, R200). -/
def State.act (s : State) (x : SelfAction) : State :=
  match x with
  | .portReset h => if s.hosts[h].link.state = .disabled then s else s.resetPort (.host h)
  | .portDisable h => s.takeDown (.host h) .disabled
  | .portIsolate h => s.isolatePort (.host h)
  | .portRestore h => if s.hosts[h].link.state = .isolated then s.restore (.host h) else s
  | .warmReset => s

/-- A judged port command: naming the requester's own port, begun under R200 with either outcome; naming another, taken
at once or refused DENIED. -/
def endPortCommand (s : State) (a : Access) (p : Port) (ok : Bool) (acted : State) (x : HPort → SelfAction) :
    Result :=
  if p = .host a.port then
    if ok then endOwnCommand s a .done (some (x a.port)) else endOwnCommand s a .denied none
  else if ok then endCommand a (acted, .result .done)
  else endCommand a (s, .result .denied)

/-- PORT_RESET is taken in any state but DISABLED (R24). -/
def State.mayReset (s : State) (p : Port) : Bool := (s.link p).state != .disabled

/-- PORT_RESET (R26, R200). -/
def execPortReset (s : State) : Result :=
  match s.accessFor .portReset with
  | some a =>
    match a.portArgument with
    | some p => endPortCommand s a p (s.mayReset p) (s.resetPort p) .portReset
    | none => endCommand a (s, .result .denied)
  | none => .next s

/-- PORT_DISABLE (R27, R38, R200). -/
def execPortDisable (s : State) : Result :=
  match s.accessFor .portDisable with
  | some a =>
    match a.portArgument with
    | some p => endPortCommand s a p (!s.withholds p) (s.takeDown p .disabled) .portDisable
    | none => endCommand a (s, .result .denied)
  | none => .next s

/-- PORT_ISOLATE is taken in UP unless withheld, and in ISOLATED (R24, R28). -/
def State.mayIsolate (s : State) (p : Port) : Bool :=
  (s.link p).state == .isolated || s.judgeIsolation p == .carriedOut

/-- PORT_ISOLATE (R28, R37, R38, R200). -/
def execPortIsolate (s : State) : Result :=
  match s.accessFor .portIsolate with
  | some a =>
    match a.portArgument with
    | some p => endPortCommand s a p (s.mayIsolate p) (s.isolatePort p) .portIsolate
    | none => endCommand a (s, .result .denied)
  | none => .next s

/-- BRIDGE_RESET (R201): accepted in every state; its answer is ordered before the warm reset. -/
def execBridgeReset (s : State) : Result :=
  match s.accessFor .bridgeReset with
  | some a => settled (s.beginSelf a .ok (some .warmReset))
  | none => .next s

/-- The unit's action taken, so that none is due. -/
def State.clearAction (s : State) : State := { s with mgmt := { s.mgmt with action := none } }

/-- SELF_PORT_COMMAND_ACTION (R200): the action of a taken command on the requester's own port, against the port's
state as it stands; the unit may accept an access again, so waiting heads are evaluated (R113). -/
def execSelfPortCommandAction (s : State) : Result :=
  match s.mgmt.action with
  | some .warmReset => .next s
  | some x => settled ((s.clearAction.act x).wake)
  | none => .next s

/-! ## Resets (R19, R44, R202) -/

/-- A port unit after a warm reset (R19, R44). -/
def PortUnit.warm (u : PortUnit) : PortUnit := u.closed (if u.state = .disabled then .disabled else .down)

/-- The commit engine after a warm reset (R93, R97). -/
def State.warmCommit (s : State) : State :=
  if s.commit.engine = .idle then s else s.giveUpCommit .abandoned

/-- The notification unit after a warm reset (R194). -/
def Notifier.warm (n : Notifier) : Notifier :=
  { n with items := [], channel := if n.channel = .disabled then .disabled else .idle, outstanding := none,
           resends := 0, tRnt := none, noticesLost := false, copy := none }

/-- The tracker after a warm reset (R143, R163). -/
def Tracker.warm (t : Tracker) : Tracker :=
  { Tracker.reset with ort := Vector.ofFn fun e : EntryIx => (t.ort[e]).freed, nextOrder := t.nextOrder }

/-- The management unit after a warm reset (R122, R204). -/
def Management.warm (m : Management) : Management :=
  { m with latches := Vector.replicate 4 none, unit := .free, action := none, answers := Vector.replicate 4 none }

/-- The warm reset, on every block at once (R202). -/
def State.warm (s : State) : State :=
  let s := s.warmCommit
  { s with
    hosts := Vector.ofFn fun h : HPort =>
      { s.hosts[h] with link := s.hosts[h].link.warm, classPtr := .localAnswer, isolatedWaits := false }
    targets := Vector.ofFn fun d : DPort => { s.targets[d] with link := s.targets[d].link.warm }
    admission := Admission.reset
    tracker := s.tracker.warm
    mgmt := s.mgmt.warm
    notifier := s.notifier.warm }

/-- WARM_RESET (R202): the unit's action after an accepted BRIDGE_RESET (R201). -/
def execWarmReset (s : State) : Result :=
  match s.mgmt.action with
  | some .warmReset => .next s.warm
  | _ => .next s

/-- COLD_RESET (R19): the straps are read and every block takes its cold-reset values; the moment and the commands
waiting are not the part's and stay. -/
def execColdReset (aps mgs : BitVec 2) (s : State) : Result :=
  .next { State.resetWith aps mgs with now := s.now, pending := s.pending }

end Sys2Proof.Machine
end

