-- ==== Sys2Proof/Machine/Dispatch.lean ====
section
/-! DEFINITION. The dispatch: one meaning for each row of spec/opcode_table.json. -/

namespace Sys2Proof.Machine

/-- The effect of a command on everything but the queue. -/
def exec (i : Instr) (s : State) : Host.Outcome State Fault Refusal :=
  match i with
  | .coldReset aps mgs => Sys2Proof.Machine.execColdReset aps mgs s
  | .partnerDetected p => Sys2Proof.Machine.execPartnerDetected p s
  | .trainingSucceeds p => Sys2Proof.Machine.execTrainingSucceeds p s
  | .trainingFails p => Sys2Proof.Machine.execTrainingFails p s
  | .tTrnExpiry p => Sys2Proof.Machine.execTTrnExpiry p s
  | .linkLoss p => Sys2Proof.Machine.execLinkLoss p s
  | .linkPacketArrival p bytes => Sys2Proof.Machine.execLinkPacketArrival p bytes s
  | .partnerAcceptsPacket p => Sys2Proof.Machine.execPartnerAcceptsPacket p s
  | .headPresented h => Sys2Proof.Machine.execHeadPresented h s
  | .localAnswerPlaced h => Sys2Proof.Machine.execLocalAnswerPlaced h s
  | .mgmtAnswerEnters h => Sys2Proof.Machine.execMgmtAnswerEnters h s
  | .isolatedHostHead h => Sys2Proof.Machine.execIsolatedHostHead h s
  | .isolatedTargetHead d => Sys2Proof.Machine.execIsolatedTargetHead d s
  | .completionMatch d => Sys2Proof.Machine.execCompletionMatch d s
  | .trackerPacketPlaced h => Sys2Proof.Machine.execTrackerPacketPlaced h s
  | .expiry e => Sys2Proof.Machine.execExpiry e s
  | .quarantineEnd e => Sys2Proof.Machine.execQuarantineEnd e s
  | .alertIntake d => Sys2Proof.Machine.execAlertIntake d s
  | .notificationSend => Sys2Proof.Machine.execNotificationSend s
  | .tRntExpiry => Sys2Proof.Machine.execTRntExpiry s
  | .notificationCopyPlaced => Sys2Proof.Machine.execNotificationCopyPlaced s
  | .acknowledge => Sys2Proof.Machine.execAcknowledge s
  | .channelEnableWrite => Sys2Proof.Machine.execChannelEnableWrite s
  | .supervisorPortWrite => Sys2Proof.Machine.execSupervisorPortWrite s
  | .apertureBaseWrite => Sys2Proof.Machine.execApertureBaseWrite s
  | .grantSetWrite => Sys2Proof.Machine.execGrantSetWrite s
  | .stagingWrite => Sys2Proof.Machine.execStagingWrite s
  | .portConfigWrite => Sys2Proof.Machine.execPortConfigWrite s
  | .faultClassWrite => Sys2Proof.Machine.execFaultClassWrite s
  | .settingWrite => Sys2Proof.Machine.execSettingWrite s
  | .latchedRead => Sys2Proof.Machine.execLatchedRead s
  | .commit => Sys2Proof.Machine.execCommit s
  | .reseedStaging => Sys2Proof.Machine.execReseedStaging s
  | .validationComplete => Sys2Proof.Machine.execValidationComplete s
  | .drainComplete => Sys2Proof.Machine.execDrainComplete s
  | .tDrnExpiry => Sys2Proof.Machine.execTDrnExpiry s
  | .portEnable => Sys2Proof.Machine.execPortEnable s
  | .portRetrain => Sys2Proof.Machine.execPortRetrain s
  | .portReset => Sys2Proof.Machine.execPortReset s
  | .portDisable => Sys2Proof.Machine.execPortDisable s
  | .portIsolate => Sys2Proof.Machine.execPortIsolate s
  | .portRestore => Sys2Proof.Machine.execPortRestore s
  | .faultPop => Sys2Proof.Machine.execFaultPop s
  | .snapshotRelease => Sys2Proof.Machine.execSnapshotRelease s
  | .channelRearm => Sys2Proof.Machine.execChannelRearm s
  | .bridgeReset => Sys2Proof.Machine.execBridgeReset s
  | .unknownCommand => Sys2Proof.Machine.execUnknownCommand s
  | .selfPortCommandAction => Sys2Proof.Machine.execSelfPortCommandAction s
  | .warmReset => Sys2Proof.Machine.execWarmReset s
  | .malformedApertureAccess => Sys2Proof.Machine.execMalformedApertureAccess s

end Sys2Proof.Machine
end

