-- ==== Sys2Proof/Safety.lean ====
section
/-! DEFINITION. What a sound run of the part keeps: the invariants the spec states of its blocks, and the frame
relations that the statements use. -/

namespace Sys2Proof

/-- The commands that may write a setting: a cold reset and the register writes of chapters 2, 9, 10 and 11. -/
def Instr.writesSettings : Instr → Bool
  | .coldReset _ _ => true
  | .channelEnableWrite => true
  | .supervisorPortWrite => true
  | .apertureBaseWrite => true
  | .grantSetWrite => true
  | .portConfigWrite => true
  | .faultClassWrite => true
  | .settingWrite => true
  | _ => false

end Sys2Proof

namespace Sys2Proof.Machine

/-! ## Frames -/

/-- Two states hold the same programmable settings (R41, R96, R165, R190, R191, R193, R195, R197). -/
structure SameSettings (s t : State) : Prop where
  apertureBase : t.mgmt.apertureBase = s.mgmt.apertureBase
  grant : t.mgmt.grant = s.mgmt.grant
  supervisor : t.mgmt.supervisor = s.mgmt.supervisor
  classes : t.mgmt.classes = s.mgmt.classes
  notificationAddress : t.notifier.address = s.notifier.address
  tRntCode : t.notifier.tRntCode = s.notifier.tRntCode
  resendLimit : t.notifier.resendLimit = s.notifier.resendLimit
  drainDeadline : t.commit.drainDeadline = s.commit.drainDeadline
  attemptLimit : ∀ p : Port, (t.link p).attemptLimit = (s.link p).attemptLimit
  hostLimit : ∀ h : HPort, t.hosts[h].outstandingLimit = s.hosts[h].outstandingLimit
  targetLimit : ∀ d : DPort, t.targets[d].outstandingLimit = s.targets[d].outstandingLimit
  timeoutCode : ∀ d : DPort, t.targets[d].timeoutCode = s.targets[d].timeoutCode
  threshold : ∀ d : DPort, t.targets[d].threshold = s.targets[d].threshold
  isolateOnFailing : ∀ d : DPort, t.targets[d].isolateOnFailing = s.targets[d].isolateOnFailing

/-- The management unit executes access `a`, and step `c` is the one that ends it (R117, R196). -/
abbrev State.executes (s : State) (a : Access) (c : Instr) : Prop := s.mgmt.unit = .accessing a ∧ a.step = c

/-! ## Ports and queues (chapter 2) -/

/-- No queue holds more than its capacity (R29, R169, R184). -/
structure QueuesWithinCapacity (s : State) : Prop where
  hostIngress : ∀ h : HPort, s.hosts[h].link.ingress.length ≤ 16
  hostEgress : ∀ h : HPort, s.hosts[h].link.egress.length ≤ 32
  targetIngress : ∀ d : DPort, s.targets[d].link.ingress.length ≤ 16
  targetEgress : ∀ d : DPort, s.targets[d].link.egress.length ≤ 16
  faultQueue : s.recorder.queue.length ≤ 16
  pendingList : s.notifier.items.length ≤ 8

/-- Both queues of a port in DISABLED, DOWN, TRAINING or FAILED are empty (R29). -/
def QuietPortsEmpty (s : State) : Prop :=
  ∀ p : Port, (s.link p).state ≠ .up → (s.link p).state ≠ .isolated →
    (s.link p).ingress = [] ∧ (s.link p).egress = []

/-- t_TRN runs exactly in TRAINING, and t_DRN exactly in DRAINING (R21, R22, R87, R90). -/
def TimersFitStates (s : State) : Prop :=
  (∀ p : Port, (s.link p).tTrn.isSome = true ↔ (s.link p).state = .training) ∧
  (s.commit.tDrn.isSome = true ↔ s.commit.engine = .draining)

/-! ## Settings and banks (chapters 2 to 5, 9 to 11) -/

/-- Every setting holds a value of its range: the grant set is not empty (R197), every fault kind has an allowed class
(R165), limits and codes lie in the ranges of R41, R96 and R193, the notification address is 16-byte aligned (R190). -/
structure SettingsLegal (s : State) : Prop where
  grant : s.mgmt.grant ≠ 0
  classes : ∀ k : FaultKind, k.allows (s.classOf k) = true
  attemptLimit : ∀ p : Port, 1 ≤ (s.link p).attemptLimit ∧ (s.link p).attemptLimit ≤ 4
  hostLimit : ∀ h : HPort, 1 ≤ s.hosts[h].outstandingLimit ∧ s.hosts[h].outstandingLimit ≤ 128
  targetLimit : ∀ d : DPort, s.targets[d].outstandingLimit ∈ [1, 4, 16, 64, 128]
  drainDeadline : 1 ≤ s.commit.drainDeadline ∧ s.commit.drainDeadline ≤ 255
  tRntCode : s.notifier.tRntCode ≤ 6
  resendLimit : s.notifier.resendLimit ≤ 7
  address : s.notifier.address.toNat % 16 = 0

/-- A valid window of a bank meets the conditions of R47 that concern it alone. -/
structure WindowLegal (b : Bank) (w : Window) : Prop where
  range : w.base.toNat ≤ w.limit.toNat
  kind : w.destKind ≠ 3
  port : w.destKind = 0 → w.destPort.toNat < 6
  translation : w.destKind = 0 ∨ w.destKind = 1 →
    w.translationBase.toNat + (w.limit.toNat - w.base.toNat) < 2 ^ 24
  group : w.destKind = 1 → (b.groups[w.group]).valid = true

/-- A valid group meets the conditions of R66: two or four members, each a target port, no two the same, and a granule. -/
structure GroupLegal (g : Group) : Prop where
  count : g.memberCount = 2 ∨ g.memberCount = 4
  named : ∀ i, i < g.memberCount.toNat → (g.memberAt i).toNat < 6
  distinct : ∀ i j, i < j → j < g.memberCount.toNat → g.memberAt i ≠ g.memberAt j
  granule : g.granuleCode ≠ 3

/-- No valid window or group of a bank breaks a condition of R47 or R66; `apart` is the condition that no other valid
window of the same class holds any block of a window's range. -/
structure BankLegal (b : Bank) : Prop where
  windows : ∀ i : WinIx, (b.windows[i]).valid = true → WindowLegal b b.windows[i]
  groups : ∀ i : GroupIx, (b.groups[i]).valid = true → GroupLegal b.groups[i]
  apart : ∀ i j : WinIx, i ≠ j → (b.windows[i]).level = (b.windows[j]).level →
    ∀ k : Block, ¬ ((b.windows[i]).holds k = true ∧ (b.windows[j]).holds k = true)

/-- The active bank breaks no condition of R47 and R66, nor does the staging bank while a DRAIN commit of it waits for
its swap (R47, R66, R81). -/
structure BanksLegal (s : State) : Prop where
  active : BankLegal s.banks.active
  staging : s.commit.engine = .draining → BankLegal s.banks.staging

/-! ## The request tracker (chapters 7 and 8) -/

/-- Every entry that is not FREE names a target port in UP (R135, R158). -/
def EntriesAimAtUpTargets (s : State) : Prop :=
  ∀ e : EntryIx, (s.tracker.ort[e]).state ≠ .free → s.targetUp (s.tracker.ort[e]).target = true

/-- No two entries in the host-tag map carry the same host port and host tag (R130). -/
def HostTagsUnique (s : State) : Prop :=
  ∀ e f : EntryIx, (s.tracker.ort[e]).mapped = true → (s.tracker.ort[f]).mapped = true →
    (s.tracker.ort[e]).host = (s.tracker.ort[f]).host → (s.tracker.ort[e]).hostTag = (s.tracker.ort[f]).hostTag → e = f

/-- While the engine is DRAINING some entry is in flight: the event that takes the last one out takes the swap (R89). -/
def DrainHasWork (s : State) : Prop := s.commit.engine = .draining → s.tracker.inFlightCount ≠ 0

/-- The fields of one entry fit its state and kind (R123 to R126). A FREE entry shows a deadline only where it expired
unsent, which sets its state alone (R124, R137). -/
structure EntryFits (e : Entry) : Prop where
  deadline : e.deadline.isSome = true → e.inFlight = true ∨ (e.state = .free ∧ e.sent = false)
  quarantine : e.quarantine.isSome = true ↔ e.state = .quarantined
  waiting : e.state = .waiting → e.delivered = 0
  receiving : e.state = .receiving →
    e.kind = .read ∧ e.sent = true ∧ 1 ≤ e.delivered ∧ e.delivered < e.length.toNat
  quarantinedSent : e.state = .quarantined → e.sent = true
  absorbed : e.absorbed = true ↔ e.kind = .writeConverted

/-- Every entry's fields fit (R123 to R126). -/
def EntriesFit (s : State) : Prop := ∀ e : EntryIx, EntryFits (s.tracker.ort[e])

/-- The final packets that wait for host port `h` at target ingress heads. -/
def Tracker.finalsWaiting (t : Tracker) (h : HPort) : Nat :=
  t.waiting.toList.countP fun w => w.any fun p => p.host == h && p.packet.final

/-- A host's answer list, the entries that count toward it and the final packets that wait for it are 134 at most
together: the reason why the list never exceeds its capacity (R154). -/
def AnswerListsBounded (s : State) : Prop :=
  ∀ h : HPort, (s.tracker.answers[h]).length + s.tracker.hostCount h + s.tracker.finalsWaiting h ≤ 134

/-! ## Admission and the management unit (chapters 6 and 11) -/

/-- The condition of one host port's head fits its port, its queue and the management unit (R98, R117). -/
def HeadFits (s : State) (h : HPort) : HeadCondition → Prop
  | .noHead => s.hostUp h = false ∨ s.hosts[h].link.ingress = []
  | .held => s.hostUp h = true ∧
      match s.mgmt.unit with
      | .free => False
      | .accessing a => a.port = h
      | .answering a _ => a.port = h
  | .presented => s.hostUp h = true ∧ s.hosts[h].link.ingress ≠ []
  | .waiting _ => s.hostUp h = true ∧ s.hosts[h].link.ingress ≠ []

/-- Every host port's head condition fits (R98). -/
def HeadsFit (s : State) : Prop := ∀ h : HPort, HeadFits s h s.admission.heads[h]

/-- The management unit holds an access or owes an action, never both, and while it waits for the answer of a command
of R200 to enter the egress queue that answer waits (R117, R200). -/
def UnitFits (s : State) : Prop :=
  match s.mgmt.unit with
  | .free => True
  | .accessing _ => s.mgmt.action = none
  | .answering a _ => s.mgmt.action = none ∧ (s.mgmt.answers[a.port]).isSome = true

/-! ## The notification channel (chapter 10) -/

/-- The channel's state fits its timer, its copy, the outstanding notification and the list (R184, R185). -/
structure ChannelFits (s : State) : Prop where
  outstanding : s.notifier.outstanding.isSome = true ↔
    s.notifier.channel = .awaitingAck ∨ s.notifier.channel = .stalled
  timer : s.notifier.tRnt.isSome = true ↔ s.notifier.channel = .awaitingAck
  copy : s.notifier.copy.isSome = true → s.notifier.channel = .awaitingAck
  headSent : s.notifier.outstanding.isSome = true → ∃ i rest, s.notifier.items = i :: rest ∧ i.sent = true
  othersUnsent : ∀ i ∈ s.notifier.items.tail, i.sent = false

end Sys2Proof.Machine
end

