-- ==== Sys2Proof/Certificates/Slice0/Obligations.lean ====
section
/-! DEFINITION. The statements for the provers: what the spec's rules say of the part's commands and of the whole part.
A result is stated as the equation `exec c s = .next t`; `State.settle` at its end is the passes over the host heads that
the event's wake events owe (R113), whose own statements stand in the section on admission. -/

open Sys2Proof Sys2Proof.Machine

/-! ## The machine -/

/-- The step runs the command at the front of the queue on the state with the rest of the queue; on an empty queue a
microsecond passes and nothing else changes (that is the model's choice: log entries 4 and 20). -/
def Obligations.StepRunsTheFrontCommand : Prop :=
  (∀ (c : Instr) (rest : List Instr) (s : State), s.pending = c :: rest →
    step s = exec c { s with pending := rest }) ∧
  (∀ s : State, s.pending = [] → step s = .next { s with now := s.now + 1 })

/-- No command stops the part (log entry 2), touches the queue, or takes the moment back. -/
def Obligations.EveryCommandAnswersANextState : Prop :=
  ∀ (c : Instr) (s : State), ∃ t, exec c s = .next t ∧ t.pending = s.pending ∧ s.now ≤ t.now

/-! ## Resets -/

/-- Every block's state right after reset, with the straps APS = 00 and MGS = 00 (log entry 1): the cold-reset columns of
R44, R60, R97, R122, R142, R163, R178, R194 and R204; and COLD_RESET gives those values from any state, with the aperture,
the grant set and the supervisor that its straps name (R19, R195, R197). The moment and the queue are not the part's. -/
def Obligations.ColdResetGivesEveryBlockItsValues : Prop :=
  (∀ h : HPort, State.reset.hosts[h] =
    { link := { state := .down, attempts := 0, tTrn := none, ingress := [], egress := [], attemptLimit := 3 },
      classPtr := .localAnswer, isolatedWaits := false, outstandingLimit := 32 }) ∧
  (∀ d : DPort, State.reset.targets[d] =
    { link := { state := .down, attempts := 0, tTrn := none, ingress := [], egress := [], attemptLimit := 3 },
      outstandingLimit := 64, timeoutCode := 5, threshold := .degraded, isolateOnFailing := false }) ∧
  (∀ w : WinIx, State.reset.banks.active.windows[w] = {} ∧ State.reset.banks.staging.windows[w] = {}) ∧
  (∀ g : GroupIx, State.reset.banks.active.groups[g] = {} ∧ State.reset.banks.staging.groups[g] = {}) ∧
  State.reset.banks.generation = 0 ∧
  State.reset.commit =
    { engine := .idle, tDrn := none, drainDeadline := 50,
      result := { code := .none, first := none, second := none, generation := 0 } } ∧
  State.reset.admission.pointer = 0 ∧ State.reset.admission.mgmtPointer = 0 ∧
  (∀ h : HPort, State.reset.admission.heads[h] = .noHead) ∧
  (∀ e : EntryIx, State.reset.tracker.ort[e] = {}) ∧
  (∀ h : HPort, State.reset.tracker.answers[h] = [] ∧ State.reset.tracker.pointers[h] = 0 ∧
    State.reset.mgmt.latches[h] = none ∧ State.reset.mgmt.answers[h] = none) ∧
  (∀ d : DPort, State.reset.tracker.waiting[d] = none) ∧
  State.reset.recorder =
    { queue := [], sequence := 0, overflow := false,
      snapshot := { held := false, multiple := false, record := none, capture := none } } ∧
  State.reset.notifier =
    { items := [], channel := .disabled, address := 0, tRntCode := 3, resendLimit := 3, sequence := 0,
      outstanding := none, resends := 0, tRnt := none, noticesLost := false, copy := none } ∧
  State.reset.mgmt.apertureBase = 0xFFFFFF ∧ State.reset.mgmt.grant = 0b0001 ∧ State.reset.mgmt.supervisor = 0 ∧
  (∀ k : FaultKind, State.reset.classOf k =
    if k ∈ [.mgmtDenied, .accessDenied, .duplicateTag, .completionTimeout, .unexpectedCompletion,
        .completionMismatch, .absorbedWriteFailed, .linkLost, .trainingFailed] then .notify else .record) ∧
  State.reset.mgmt.result = { code := 0, outcome := .done } ∧ State.reset.mgmt.unit = .free ∧
  State.reset.mgmt.action = none ∧ State.reset.pending = [] ∧
  (∀ (aps mgs : BitVec 2) (s : State), exec (.coldReset aps mgs) s =
      .next { State.reset with
        mgmt := { State.reset.mgmt with
          apertureBase := if aps = 0 then 0xFFFFFF else if aps = 1 then 0xFFF000 else if aps = 2 then 0x800000 else 0
          grant := if mgs = 0 then 0b0001 else if mgs = 1 then 0b0010 else if mgs = 2 then 0b0100 else 0b1000
          supervisor := mgs.toFin }
        now := s.now
        pending := s.pending })

/-- WARM_RESET acts on every block at once: ports not DISABLED to DOWN with queues emptied, admission and tracker
cleared with the phases kept, a running commit ABANDONED, the list emptied, and everything else kept, with no fault
(R202 and the rules it names). -/
def Obligations.WarmResetClearsAndKeeps : Prop :=
  ∀ s : State, s.mgmt.action = some .warmReset → ∃ t, exec .warmReset s = .next t ∧
    SameSettings s t ∧ t.banks = s.banks ∧ t.recorder = s.recorder ∧ t.mgmt.result = s.mgmt.result ∧
    (∀ p : Port, (t.link p).state = (if (s.link p).state = .disabled then .disabled else .down) ∧
      (t.link p).attempts = 0 ∧ (t.link p).tTrn = none ∧ (t.link p).ingress = [] ∧ (t.link p).egress = []) ∧
    (∀ h : HPort, t.hosts[h].classPtr = .localAnswer ∧ t.hosts[h].isolatedWaits = false) ∧
    t.admission.pointer = 0 ∧ t.admission.mgmtPointer = 0 ∧ t.admission.passDue = false ∧
    (∀ h : HPort, t.admission.heads[h] = .noHead ∧ t.tracker.answers[h] = [] ∧ t.tracker.pointers[h] = 0 ∧
      t.mgmt.latches[h] = none ∧ t.mgmt.answers[h] = none) ∧
    (∀ e : EntryIx, t.tracker.ort[e] =
      { s.tracker.ort[e] with state := .free, deadline := none, quarantine := none }) ∧
    (∀ d : DPort, t.tracker.waiting[d] = none) ∧
    t.commit = (if s.commit.engine = .idle then s.commit else
      { engine := .idle, tDrn := none, drainDeadline := s.commit.drainDeadline,
        result := { code := .abandoned, first := none, second := none, generation := s.banks.generation } }) ∧
    t.notifier = { s.notifier with
      items := [], channel := (if s.notifier.channel = .disabled then .disabled else .idle), outstanding := none,
      resends := 0, tRnt := none, noticesLost := false, copy := none } ∧
    t.mgmt.unit = .free ∧ t.mgmt.action = none ∧ t.now = s.now ∧ t.pending = s.pending

/-! ## The links (chapters 1 and 2) -/

/-- PARTNER_DETECTED in DOWN begins a training attempt: TRAINING, count up by one, t_TRN started with its least
duration, 1.9 ms; no other port's training, no bank and no setting changes. TRAINING_SUCCEEDS in TRAINING brings the port UP
with t_TRN stopped and the count kept; a host port's entering UP is an event at which a waiting notification is judged
(R20, R21, R42, R186). That the timer is held as its earliest moment is the model's choice (log entry 4). -/
def Obligations.TrainingBeginsAndBringsThePortUp : Prop :=
  (∀ (p : Port) (s : State), (s.link p).state = .down →
    ∃ t, exec (.partnerDetected p) s = .next t ∧
      t = ((s.setLink p fun u =>
        { u with state := .training, attempts := u.attempts + 1, tTrn := some (s.now + 1900) }).wakeTarget p).settle ∧
      (t.link p).state = .training ∧ (t.link p).attempts = (s.link p).attempts + 1 ∧
      (t.link p).tTrn = some (s.now + 1900) ∧
      (∀ q : Port, q ≠ p → (t.link q).attempts = (s.link q).attempts ∧ (t.link q).tTrn = (s.link q).tTrn) ∧
      t.banks = s.banks ∧ t.commit = s.commit ∧ SameSettings s t ∧ t.now = s.now) ∧
  (∀ (d : DPort) (s : State), s.targets[d].link.state = .training →
    ∃ t, exec (.trainingSucceeds (.target d)) s = .next t ∧
      t = (s.setTarget d fun x => { x with link := { x.link with state := .up, tTrn := none } }).wake.settle ∧
      t.targets[d].link.state = .up ∧ t.targets[d].link.tTrn = none ∧
      t.targets[d].link.attempts = s.targets[d].link.attempts ∧ SameSettings s t) ∧
  (∀ (h : HPort) (s : State), s.hosts[h].link.state = .training → s.admission.passDue = false →
    ∃ t, exec (.trainingSucceeds (.host h)) s = .next t ∧
      t = (s.setHost h fun x => { x with link := { x.link with state := .up, tTrn := none } }).sendNotification ∧
      t.hosts[h].link.state = .up ∧ t.hosts[h].link.tTrn = none ∧
      t.hosts[h].link.attempts = s.hosts[h].link.attempts ∧ SameSettings s t)

/-- TRAINING_FAILS and T_TRN_EXPIRY in TRAINING end the attempt: with the count below the limit another begins at once;
otherwise the port is FAILED with t_TRN stopped, the count kept and fault TRAINING_FAILED reported (R20 to R22). An expiry
moves the present moment to the timer's earliest one (the model's choice: log entry 4). -/
def Obligations.FailedAttemptIsRepeatedOrEndsInFailed : Prop :=
  ∀ (p : Port) (s : State), (s.link p).state = .training →
    let again (u : State) : State := (u.setLink p fun v =>
      { v with state := .training, attempts := v.attempts + 1, tTrn := some (u.now + 1900) }).settle
    let failed (u : State) : State := (((u.setLink p fun v => { v with state := .failed, tTrn := none }).wakeTarget
      p).report [{ kind := .trainingFailed, port := p }]).settle
    ((s.link p).attempts < (s.link p).attemptLimit →
      exec (.trainingFails p) s = .next (again s) ∧
      ∀ m, (s.link p).tTrn = some m →
        exec (.tTrnExpiry p) s = .next (again { s with now := max s.now m })) ∧
    ((s.link p).attemptLimit ≤ (s.link p).attempts →
      exec (.trainingFails p) s = .next (failed s) ∧
      (failed s).link p = { (failed s).link p with state := .failed, tTrn := none } ∧
      ((failed s).link p).attempts = (s.link p).attempts ∧
      ∀ m, (s.link p).tTrn = some m →
        exec (.tTrnExpiry p) s = .next (failed { s with now := max s.now m }))

/-- LINK_LOSS takes an UP or ISOLATED port to DOWN with count 0, t_TRN stopped and empty queues; an UP host port that held
a live entry or a packet reports LINK_LOST (an UP target port's report is its purge's), an ISOLATED port reports nothing; in
TRAINING it ends the attempt as a failure does (R20, R21, R23). A link event that R20 does not list for the port's state
changes nothing. -/
def Obligations.LinkLossTakesThePortDown : Prop :=
  (∀ (p : Port) (s : State),
    ((s.link p).state = .up ∨ (s.link p).state = .isolated →
      ∃ t, exec (.linkLoss p) s = .next t ∧ (t.link p).state = .down ∧ (t.link p).attempts = 0 ∧
        (t.link p).tTrn = none ∧ (t.link p).ingress = [] ∧ (t.link p).egress = [] ∧ SameSettings s t) ∧
    ((s.link p).state = .isolated → exec (.linkLoss p) s = .next (s.takeDown p .down).settle) ∧
    (∀ d : DPort, p = .target d → s.targets[d].link.state = .up →
      exec (.linkLoss p) s = .next (s.takeDown p .down).settle) ∧
    (∀ h : HPort, p = .host h → s.hosts[h].link.state = .up →
      exec (.linkLoss p) s = .next ((s.takeDown p .down).report
        (if s.tracker.hostCount h ≠ 0 ∨ s.hosts[h].link.ingress ≠ [] ∨ s.hosts[h].link.egress ≠ [] then
          [{ kind := .linkLost, port := p }] else [])).settle) ∧
    ((s.link p).state = .training → exec (.linkLoss p) s = exec (.trainingFails p) s)) ∧
  (∀ (p : Port) (s : State),
    ((s.link p).state ≠ .down → exec (.partnerDetected p) s = .next s) ∧
    ((s.link p).state ≠ .training → exec (.trainingSucceeds p) s = .next s ∧
      exec (.trainingFails p) s = .next s ∧ exec (.tTrnExpiry p) s = .next s) ∧
    ((s.link p).state = .down ∨ (s.link p).state = .failed ∨ (s.link p).state = .disabled →
      exec (.linkLoss p) s = .next s))

/-- What a target port's leaving UP does: its queues are emptied, every entry that names it is freed and no other is
touched, and no packet waits at its ingress head; CPS UNREACHABLE is owed for a final packet that waited there, if its host is
UP, and then for each live READ or WRITE_ACK entry in ascending index, each joining the tail of its own host's answer list;
then LINK_LOST is reported once with the number of entries, if the port held an entry or a packet, under the generation as it
stood; then a drain that the purge emptied is complete (R34, R89, R92, R154, R158). Taken down from UP, a target port leaves
UP first (R20, R26, R27). That the swap follows the report in the same step is the model's reading (log entry 9). -/
def Obligations.LeavingUpPurgesATarget : Prop :=
  (∀ (s : State) (d : DPort) (l : LinkState), l ≠ .up →
    let t := s.leavesUp (.target d) l
    let u := s.targets[d].link
    let held : Nat := s.tracker.ort.toList.countP fun e => e.state != .free && e.target == d
    let purged : State := { s with
      targets := s.targets.set d { s.targets[d] with link := { u with state := l, ingress := [], egress := [] } }
      tracker := { s.tracker with
        ort := Vector.ofFn fun e : EntryIx =>
          if (s.tracker.ort[e]).state ≠ .free ∧ (s.tracker.ort[e]).target = d then
            { s.tracker.ort[e] with state := .free, deadline := none, quarantine := none }
          else s.tracker.ort[e]
        waiting := s.tracker.waiting.set d none }
      admission := { s.admission with passDue := true } }
    let owed : List (HPort × Byte) :=
      (match s.tracker.waiting[d] with
        | some w => if w.packet.final = true ∧ s.hosts[w.host].link.state = .up then [(w.host, w.packet.tag)] else []
        | none => []) ++
      (s.tracker.ort.toList.filter fun e => (e.state == .waiting || e.state == .receiving) && !e.orphaned &&
        e.kind != .writeConverted && e.target == d).map fun e => (e.host, e.hostTag)
    let answered : State := owed.foldl (fun v x => v.appendAnswer x.1 x.2 .unreachable d) purged
    t = (if held ≠ 0 ∨ u.ingress ≠ [] ∨ u.egress ≠ [] then
        answered.takeReport { kind := .linkLost, port := .target d, detail := .count held } else answered).drainCheck ∧
    t.targets[d].link.state = l ∧ t.targets[d].link.ingress = [] ∧ t.targets[d].link.egress = [] ∧
    t.tracker.waiting[d] = none ∧ t.tracker.ort = purged.tracker.ort ∧ SameSettings s t ∧
    (∀ h : HPort, s.hostHasRoom h = false →
      (t.tracker.answers[h]).map (fun i => (i.hostTag, i.status, i.target)) =
        (s.tracker.answers[h]).map (fun i => (i.hostTag, i.status, i.target)) ++
          (owed.filter fun x => x.1 == h).map fun x => (x.2, .unreachable, d)) ∧
    (held = 0 → u.ingress = [] → u.egress = [] → t.recorder = s.recorder) ∧
    (held ≠ 0 ∨ u.ingress ≠ [] ∨ u.egress ≠ [] →
      s.classOf .linkLost = .record ∨ s.classOf .linkLost = .notify → s.recorder.queue.length < 16 →
      t.recorder.queue = s.recorder.queue ++
        [{ sequence := s.recorder.sequence, kind := .linkLost, port := .target d, entry := none, hostTag := none,
           window := none, address := none, generation := s.banks.generation, detail := .count held }]) ∧
    (s.targets[d].link.state = .up →
      s.takeDown (.target d) l = (t.setLink (.target d) fun v => v.closed l).wake)) ∧
  (∀ (s : State) (h : HPort) (tag : Byte) (st : Status) (d : DPort),
    s.appendAnswer h tag st d = ({ s with tracker := { s.tracker with
      answers := s.tracker.answers.set h (s.tracker.answers[h] ++
        [{ hostTag := tag, status := st, target := d, order := s.tracker.nextOrder }])
      nextOrder := s.tracker.nextOrder + 1 } } : State).placeTracker h)

/-- What a host port's leaving UP does: its queues are emptied, its head ends, its live entries are orphaned and count for
it no more, its answers, the packets that wait for it and its read latch are gone, no other host port is touched and nothing
is reported (R35, R153, R159, R198). Taken down from UP, a host port leaves UP first and its waiting answer of class MANAGEMENT
is discarded; an answer so discarded completes the access of a command on the own port, whose action is then due (R20, R26,
R27, R30, R200). -/
def Obligations.LeavingUpOrphansAHost : Prop :=
  (∀ (s : State) (h : HPort) (l : LinkState), l ≠ .up →
    let t := s.leavesUp (.host h) l
    t.hosts[h].link.state = l ∧ t.hosts[h].link.ingress = [] ∧ t.hosts[h].link.egress = [] ∧
    t.admission.heads[h] = .noHead ∧ t.tracker.answers[h] = [] ∧ t.mgmt.latches[h] = none ∧
    t.tracker.hostCount h = 0 ∧ t.recorder = s.recorder ∧ t.banks = s.banks ∧ t.commit = s.commit ∧ SameSettings s t ∧
    (∀ g : HPort, g ≠ h → t.hosts[g] = s.hosts[g] ∧ t.admission.heads[g] = s.admission.heads[g] ∧
      t.tracker.answers[g] = s.tracker.answers[g] ∧ t.mgmt.latches[g] = s.mgmt.latches[g]) ∧
    (∀ e : EntryIx, t.tracker.ort[e] = { s.tracker.ort[e] with
      orphaned := (s.tracker.ort[e]).orphaned || ((s.tracker.ort[e]).inFlight && (s.tracker.ort[e]).host == h) }) ∧
    (∀ d : DPort, t.tracker.waiting[d] =
        (if ((s.tracker.waiting[d]).map (·.host)) = some h then none else s.tracker.waiting[d]) ∧
      t.targets[d].link.ingress = (if ((s.tracker.waiting[d]).map (·.host)) = some h then
        s.targets[d].link.ingress.tail else s.targets[d].link.ingress) ∧
      t.targets[d].link.egress = s.targets[d].link.egress ∧ t.targets[d].link.state = s.targets[d].link.state) ∧
    (s.hosts[h].link.state = .up → s.takeDown (.host h) l =
      (t.setHost h fun x => { x with link := x.link.closed l, isolatedWaits := false }).discardAnswer h)) ∧
  (∀ (s : State) (h : HPort),
    let cleared : State := { s with mgmt := { s.mgmt with answers := s.mgmt.answers.set h none } }
    (s.mgmt.answers[h] = none → s.discardAnswer h = s) ∧
    (∀ p, s.mgmt.answers[h] = some p → (∀ a x, s.mgmt.unit = .answering a x → a.port ≠ h) →
      s.discardAnswer h = cleared) ∧
    (∀ p a x, s.mgmt.answers[h] = some p → s.mgmt.unit = .answering a x → a.port = h → x ≠ some .warmReset →
      s.discardAnswer h = State.freeUnit { cleared with mgmt := { cleared.mgmt with action := x } } h))

/-- LINK_PACKET_ARRIVAL on a port in UP or ISOLATED with room: the size and the check first (INTEGRITY_ERROR), then the
kind for the side and the form (MALFORMED_PACKET with the header), and a packet that passes joins the tail of the ingress
queue, and is presented to admission where it is the head of an UP host port; on a port that carries no packets, or whose
queue is full, nothing is accepted (R1, R9 to R11, R13, R98). -/
def Obligations.ArrivingPacketIsQueuedOrReported : Prop :=
  ∀ (p : Port) (bs : List Byte) (s : State),
    let x := parsePacket bs
    let sound := 20 ≤ bs.length ∧ bs.length ≤ 276 ∧
      leNat (bs.drop (bs.length - 4)) = (crc32 (bs.take (bs.length - 4))).toNat
    let legal := match p with
      | .host _ => x.kindCode ∈ [1#8, 2#8, 3#8]
      | .target _ => x.kindCode ∈ [4#8, 5#8, 6#8] ∧ x.formOk = true
    let ready := ((s.link p).state = .up ∨ (s.link p).state = .isolated) ∧ (s.link p).ingress.length < 16
    (¬ ready → exec (.linkPacketArrival p bs) s = .next s) ∧
    (ready → ¬ sound →
      exec (.linkPacketArrival p bs) s = .next (s.report [{ kind := .integrityError, port := p }]).settle) ∧
    (ready → sound → ¬ legal →
      exec (.linkPacketArrival p bs) s = .next (s.report
        [{ kind := .malformedPacket
           port := p
           capture := some { kindCode := x.kindCode, tag := x.tag, address := x.address, length := x.length } }]).settle) ∧
    (ready → sound → legal → s.admission.passDue = false →
      ∃ t, exec (.linkPacketArrival p bs) s = .next t ∧ (t.link p).ingress = (s.link p).ingress ++ [x] ∧
        (t.link p).egress = (s.link p).egress ∧ t.tracker = s.tracker ∧ t.recorder = s.recorder ∧
        t.banks = s.banks ∧ t.mgmt = s.mgmt ∧ t.notifier = s.notifier ∧
        (∀ q : Port, q ≠ p → t.link q = s.link q) ∧
        ∀ h : HPort, t.admission.heads[h] =
          if p = .host h ∧ s.hostUp h = true ∧ s.admission.heads[h] = .noHead then .presented
          else s.admission.heads[h])

/-- PARTNER_ACCEPTS_PACKET takes the head out of the egress queue of a port in UP or ISOLATED; a target's acceptance sets
the sent flag of the entry whose request it is, and is a wake event (R13, R14, R113, R129). -/
def Obligations.AcceptedPacketLeavesTheEgressQueue : Prop :=
  (∀ (h : HPort) (s : State) (x : Packet) (rest : List Packet),
    s.hosts[h].link.state = .up ∨ s.hosts[h].link.state = .isolated → s.hosts[h].link.egress = x :: rest →
    s.admission.passDue = false →
    exec (.partnerAcceptsPacket (.host h)) s =
      .next (s.setHost h fun y => { y with link := { y.link with egress := rest } })) ∧
  (∀ (d : DPort) (s : State) (x : Packet) (rest : List Packet),
    s.targets[d].link.state = .up ∨ s.targets[d].link.state = .isolated → s.targets[d].link.egress = x :: rest →
    x.kind ≠ some .rdq → x.kind ≠ some .waq →
    exec (.partnerAcceptsPacket (.target d)) s =
      .next (s.setTarget d fun y => { y with link := { y.link with egress := rest } }).wake.settle) ∧
  (∀ (d : DPort) (s : State) (x : Packet) (rest : List Packet) (e : EntryIx),
    s.targets[d].link.state = .up ∨ s.targets[d].link.state = .isolated → s.targets[d].link.egress = x :: rest →
    x.kind = some .rdq ∨ x.kind = some .waq → x.tag.toNat = 2 * e.val + (s.tracker.ort[e]).phase.toNat →
    (s.tracker.ort[e]).state = .waiting → (s.tracker.ort[e]).target = d →
    exec (.partnerAcceptsPacket (.target d)) s =
      .next ((s.setTarget d fun y => { y with link := { y.link with egress := rest } }).setEntry e fun y =>
        { y with sent := true }).wake.settle)

/-- ISOLATED_HOST_HEAD: the port unit of an ISOLATED host port drops a posted write, answers any other head UNREACHABLE
under its tag in class LOCAL where R31 gives room, and otherwise leaves the head waiting (R39). ISOLATED_TARGET_HEAD: that of
an ISOLATED target port discards the head (R40). No fault is reported, nothing is matched and no entry is allocated. -/
def Obligations.IsolatedPortUnitTakesItsHeads : Prop :=
  (∀ (h : HPort) (s : State) (x : Packet) (rest : List Packet), s.hosts[h].link.state = .isolated →
    s.hosts[h].link.ingress = x :: rest → s.admission.passDue = false →
    (x.kind = some .wpq → exec (.isolatedHostHead h) s =
      .next (s.setHost h fun y => { y with link := { y.link with ingress := rest } })) ∧
    (x.kind ≠ some .wpq → s.givesRoom h .localAnswer = true → exec (.isolatedHostHead h) s =
      .next (s.setHost h fun y => { y with
        link := { y.link with
          ingress := rest
          egress := y.link.egress ++ [{ kindCode := 5, tag := x.tag, status := 4, final := true }] }
        classPtr := .management
        isolatedWaits := false })) ∧
    (x.kind ≠ some .wpq → s.givesRoom h .localAnswer = false → exec (.isolatedHostHead h) s =
      .next (s.setHost h fun y => { y with isolatedWaits := true }))) ∧
  (∀ (d : DPort) (s : State) (x : Packet) (rest : List Packet), s.targets[d].link.state = .isolated →
    s.targets[d].link.ingress = x :: rest → s.admission.passDue = false →
    exec (.isolatedTargetHead d) s =
      .next (s.setTarget d fun y => { y with link := { y.link with ingress := rest } }))

/-- Every packet the part sends passes its own checks of size and integrity and carries exactly the header fields and
payload it was built from: the layouts of R205 lose nothing (R1, R10, R205). -/
def Obligations.SentPacketParsesBack : Prop :=
  ∀ p : Packet, p.payload.length ≤ 256 →
    packetSizeOk p.toBytes = true ∧ integrityOk p.toBytes = true ∧ parsePacket p.toBytes = p

/-- No step makes a queue hold more than its capacity (R29, R169, R184). -/
def Obligations.StepKeepsQueuesWithinCapacity : Prop :=
  ∀ s t : State, QueuesWithinCapacity s → step s = .next t → QueuesWithinCapacity t

/-- Every step leaves the queues of ports in DISABLED, DOWN, TRAINING and FAILED empty (R29), and keeps t_TRN running
exactly in TRAINING and t_DRN exactly in DRAINING (R21, R22, R87, R90). -/
def Obligations.StepKeepsQuietPortsEmptyAndTimersFitting : Prop :=
  (∀ s t : State, QuietPortsEmpty s → step s = .next t → QuietPortsEmpty t) ∧
  (∀ s t : State, TimersFitStates s → step s = .next t → TimersFitStates t)

/-! ## Lookup and admission (chapters 3, 4 and 6) -/

/-- The decision of an evaluation follows the checks of R99 in order: what decides a head, and with which status. Checks 1
to 6 refuse, divert, pause or answer; check 7 drops a READ or WRITE_ACK whose host tag a live entry holds, unanswered and with
that entry's index, and lets a request wait with every resource it misses; what passes is admitted with its kind (R99 to
R108, R110). -/
def Obligations.AdmissionChecksDecideInOrder : Prop :=
  ∀ (s : State) (h : HPort) (p : Packet), p.kind = some .rdq ∨ p.kind = some .waq ∨ p.kind = some .wpq →
    let refused (d : Decision) (code : Byte) (k : FaultKind) (port : Port) (w : Option WinIx) : Prop :=
      ∃ r : Report, r.kind = k ∧ r.port = port ∧ r.entry = none ∧ r.window = w ∧ r.address = some p.address ∧
        r.detail = .none ∧ r.capture = some p.capture ∧
        (p.kind = some .wpq → d = .drop (some r) ∧ r.hostTag = none) ∧
        (p.kind ≠ some .wpq → r.hostTag = some p.tag ∧
          d = .answer { kindCode := 5, tag := p.tag, status := code, final := true } (some r))
    let inAperture : Prop := blockOf p.address = s.mgmt.apertureBase
    let result := s.banks.classify s.mgmt.apertureBase h p.kind p.address
    (p.wellFormedRequest = false → refused (s.decideHead h p) 3 .malformedRequest (.host h) none) ∧
    (p.wellFormedRequest = true → inAperture → s.granted h = true → s.decideHead h p = .divert) ∧
    (p.wellFormedRequest = true → inAperture → s.granted h = false →
      refused (s.decideHead h p) 2 .mgmtDenied (.host h) none) ∧
    (p.wellFormedRequest = true → ¬ inAperture → s.commit.engine = .draining → s.decideHead h p = .wait .pause) ∧
    (p.wellFormedRequest = true → ¬ inAperture → s.commit.engine ≠ .draining →
      (result = .unmapped → refused (s.decideHead h p) 1 .unmappedAddress (.host h) none) ∧
      (∀ w, result = .refused w → refused (s.decideHead h p) 2 .accessDenied (.host h) (some w)) ∧
      (∀ w, result = .discard w →
        (p.kind = some .rdq → ∃ q : Packet, s.decideHead h p = .answer q none ∧ q.kindCode = 4 ∧ q.tag = p.tag ∧
          q.offset = 0 ∧ q.length = p.length ∧ q.final = true ∧ q.status = 0 ∧
          q.payload = List.replicate p.length.toNat 0xFF) ∧
        (p.kind = some .waq →
          s.decideHead h p = .answer { kindCode := 5, tag := p.tag, status := 0, final := true } none) ∧
        (p.kind = some .wpq → s.decideHead h p = .drop none)) ∧
      (∀ w d a convert g, result = .routed w d a convert g → s.targetUp d = false →
        refused (s.decideHead h p) 4 .targetUnreachable (.target d) (some w)) ∧
      (∀ w d a convert g, result = .routed w d a convert g → s.targetUp d = true →
        let untracked : Prop := p.kind = some .wpq ∧ convert = false
        let kind : EntryKind :=
          if p.kind = some .rdq then .read else if p.kind = some .waq then .writeAck else .writeConverted
        let passes (k : Option EntryKind) : Decision :=
          .admitting { kind := k, window := w, target := d, address := a, generation := g }
        let holds (e : EntryIx) : Prop := ((s.tracker.ort[e]).state = .waiting ∨ (s.tracker.ort[e]).state = .receiving) ∧
          (s.tracker.ort[e]).orphaned = false ∧ (s.tracker.ort[e]).kind ≠ .writeConverted ∧
          (s.tracker.ort[e]).host = h ∧ (s.tracker.ort[e]).hostTag = p.tag
        let missing : Missing :=
          { hostCount := decide (s.hosts[h].outstandingLimit ≤ s.tracker.hostCount h)
            targetCount := decide (s.targets[d].outstandingLimit ≤ s.tracker.targetCount d)
            ortEntry := decide (∀ e : EntryIx, (s.tracker.ort[e]).state ≠ .free)
            egressSlot := decide (16 ≤ s.targets[d].link.egress.length)
            answerRoom := decide (128 ≤ s.tracker.hostCount h + (s.tracker.answers[h]).length) }
        (untracked → 16 ≤ s.targets[d].link.egress.length →
          s.decideHead h p = .wait (.resource ⟨false, false, false, true, false⟩)) ∧
        (untracked → s.targets[d].link.egress.length < 16 → s.decideHead h p = passes none) ∧
        (∀ e, p.kind ≠ some .wpq → holds e → (∀ f : EntryIx, f < e → ¬ holds f) →
          s.decideHead h p = .drop (some
            { kind := .duplicateTag, port := .host h, entry := some e, hostTag := some p.tag,
              address := some p.address, capture := some p.capture })) ∧
        (¬ untracked → (p.kind ≠ some .wpq → ∀ e, ¬ holds e) → missing ≠ ⟨false, false, false, false, false⟩ →
          s.decideHead h p = .wait (.resource missing)) ∧
        (¬ untracked → (p.kind ≠ some .wpq → ∀ e, ¬ holds e) → missing = ⟨false, false, false, false, false⟩ →
          s.decideHead h p = passes (some kind))))

/-- The classification of an address: in the aperture block APERTURE, whatever the bank holds; outside it UNMAPPED exactly
where no valid window's range holds its block, which is the address divided by 1 MiB; and in a bank that breaks no condition
of R47 and R66, whose windows of one class are apart, the window of highest class that holds the block decides alone:
REFUSED where it does not permit the kind or its host set does not name the port, else DISCARD, or ROUTED with the window's
target, translated address, write mode and the generation (R48 to R57). -/
def Obligations.HighestClassWindowDecidesTheClassification : Prop :=
  ∀ (b : Banks) (aperture : Block) (h : HPort) (k : Option Kind) (a : Addr),
    let n := a.toNat / 2 ^ 20
    let holds (i : WinIx) : Prop := (b.active.windows[i]).valid = true ∧
      (b.active.windows[i]).base.toNat ≤ n ∧ n ≤ (b.active.windows[i]).limit.toNat
    let result := b.classify aperture h k a
    (n = aperture.toNat → result = .aperture) ∧
    (n ≠ aperture.toNat →
      (result = .unmapped ↔ ∀ i, ¬ holds i) ∧
      (BankLegal b.active → ∀ i, holds i →
        (∀ j, holds j → (b.active.windows[j]).level.toNat ≤ (b.active.windows[i]).level.toNat) →
        let w := b.active.windows[i]
        let g := b.active.groups[w.group]
        let allowed : Prop := (if k = some .rdq then w.readAllowed else w.writeAllowed) = true ∧
          w.hostSet.getLsbD h.val = true
        (¬ allowed → result = .refused i) ∧
        (allowed → w.destKind = 2 → result = .discard i) ∧
        (allowed → w.destKind = 0 ∨ w.destKind = 1 →
          result = .routed i (w.target g a) (w.translate g a) w.convert b.generation)))

/-- The translation of an address that a valid window of a bank holds, where the bank breaks no condition of R47 and R66.
The offset is the address less the window's base times 1 MiB. A PORT window goes to its destination port, at the translation
base times 1 MiB plus the offset. A GROUP window goes to the member at the position offset / granule, modulo the member count,
at the translation base times 1 MiB plus the offset, or with compaction plus (offset / period) times the granule plus the
offset modulo the granule. Every byte of the address's 256-byte block goes to the same port, at consecutive addresses (R55,
R56, R62, R63, R65, R67 to R70). -/
def Obligations.TranslationAndInterleaveArithmetic : Prop :=
  ∀ (b : Bank) (i : WinIx) (a : Addr), BankLegal b → (b.windows[i]).holds (blockOf a) = true →
    let w := b.windows[i]
    let g := b.groups[w.group]
    let offset := a.toNat - w.base.toNat * 2 ^ 20
    let start := w.translationBase.toNat * 2 ^ 20
    let granule := if g.granuleCode = 0 then 256 else if g.granuleCode = 1 then 4096 else 65536
    let count := g.memberCount.toNat
    w.base.toNat * 2 ^ 20 ≤ a.toNat ∧
    (w.destKind = 0 → (w.target g a).val = w.destPort.toNat ∧ (w.translate g a).toNat = start + offset) ∧
    (w.destKind = 1 →
      (count = 2 ∨ count = 4) ∧
      (∃ c : BitVec 3, [g.member0, g.member1, g.member2, g.member3][offset / granule % count]? = some c ∧
        (w.target g a).val = c.toNat) ∧
      (g.compaction = false → (w.translate g a).toNat = start + offset) ∧
      (g.compaction = true → (w.translate g a).toNat =
        start + offset / (granule * count) * granule + offset % granule)) ∧
    (w.destKind = 0 ∨ w.destKind = 1 → ∀ n : Nat, a.toNat % 256 + n < 256 →
      w.target g (a + BitVec.ofNat 44 n) = w.target g a ∧
      (w.translate g (a + BitVec.ofNat 44 n)).toNat = (w.translate g a).toNat + n)

/-- A request is admitted only where the active bank allows it: a valid window holds its block, no valid window of a
higher class does, the window permits the kind and names the arrival port, the target it is routed to is UP with a free
egress slot, and the address lies outside the aperture with no drain running (R50 to R53, R62 to R69, R99, R105, R107). A
tracked request also needs both counts below their limits, a FREE entry, answer room and, for a READ or a WRITE_ACK, a
host tag that no live entry of the host holds; an untracked posted write needs the slot alone (R106, R107). -/
def Obligations.AdmissionNeedsPermissionAndResources : Prop :=
  ∀ (s : State) (h : HPort) (p : Packet) (x : Admitted), s.decideHead h p = .admitting x →
    let w := s.banks.active.windows[x.window]
    p.wellFormedRequest = true ∧ blockOf p.address ≠ s.mgmt.apertureBase ∧ s.commit.engine ≠ .draining ∧
    w.holds (blockOf p.address) = true ∧
    (∀ i : WinIx, (s.banks.active.windows[i]).holds (blockOf p.address) = true →
      (s.banks.active.windows[i]).level.toNat ≤ w.level.toNat) ∧
    (if p.kind = some .rdq then w.readAllowed else w.writeAllowed) = true ∧ w.hostSet.getLsbD h.val = true ∧
    s.targetUp x.target = true ∧ s.targets[x.target].link.egress.length < 16 ∧
    x.target = w.target s.banks.active.groups[w.group] p.address ∧
    x.address = w.translate s.banks.active.groups[w.group] p.address ∧ x.generation = s.banks.generation ∧
    (x.kind = none ↔ p.kind = some .wpq ∧ w.convert = false) ∧
    (x.kind ≠ none →
      s.tracker.hostCount h < s.hosts[h].outstandingLimit ∧
      s.tracker.targetCount x.target < s.targets[x.target].outstandingLimit ∧
      (∃ e : EntryIx, (s.tracker.ort[e]).state = .free) ∧
      s.tracker.hostCount h + (s.tracker.answers[h]).length < 128 ∧
      (p.kind ≠ some .wpq → ∀ e : EntryIx, (s.tracker.ort[e]).mapped = true → (s.tracker.ort[e]).host = h →
        (s.tracker.ort[e]).hostTag ≠ p.tag))

/-- HEAD_PRESENTED runs a pass (R113, R114). Where the presented head is the only one to evaluate: a tracked request that
passes every check takes the lowest-numbered FREE entry, whose phase toggles, goes to the tail of its target's egress
queue under its D-tag with the translated address, and moves the pointer past its port (R108, R116, R124, R127, R128). A
converted write's host tag field keeps its earlier value and the deadline is held as its earliest moment: the model's
readings (log entries 4 and 12). -/
def Obligations.PresentedHeadIsAdmittedUnderItsDTag : Prop :=
  ∀ (h : HPort) (s : State) (p : Packet) (rest : List Packet) (x : Admitted) (k : EntryKind) (e : EntryIx),
    s.admission.heads[h] = .presented → s.hosts[h].link.ingress = p :: rest →
    (∀ g : HPort, g ≠ h → s.admission.heads[g] = .noHead ∨ s.admission.heads[g] = .held) →
    s.decideHead h p = .admitting x → x.kind = some k →
    (s.tracker.ort[e]).state = .free → (∀ f : EntryIx, f < e → (s.tracker.ort[f]).state ≠ .free) →
    ∃ t, exec (.headPresented h) s = .next t ∧
      t.tracker.ort[e] =
        { state := .waiting, phase := !(s.tracker.ort[e]).phase, kind := k, host := h,
          hostTag := if k = .writeConverted then (s.tracker.ort[e]).hostTag else p.tag,
          target := x.target, address := x.address, length := p.length, delivered := 0, window := x.window,
          generation := x.generation, sent := false, orphaned := false, absorbed := k == .writeConverted,
          deadline := (tExp s.targets[x.target].timeoutCode).map (s.now + ·), quarantine := none } ∧
      (∀ f : EntryIx, f ≠ e → t.tracker.ort[f] = s.tracker.ort[f]) ∧
      t.targets[x.target].link.egress = s.targets[x.target].link.egress ++
        [{ kindCode := if k = .writeConverted then 3 else p.kindCode,
           tag := BitVec.ofNat 8 (2 * e.val + (!(s.tracker.ort[e]).phase).toNat),
           length := p.length, address := x.address, payload := p.payload }] ∧
      (∀ c : DPort, c ≠ x.target → t.targets[c] = s.targets[c]) ∧ (∀ g : HPort, g ≠ h → t.hosts[g] = s.hosts[g]) ∧
      t.hosts[h].link.ingress = rest ∧ t.hosts[h].link.egress = s.hosts[h].link.egress ∧
      t.admission.heads[h] = (if rest = [] then .noHead else .presented) ∧ t.admission.pointer = h + 1 ∧
      t.recorder = s.recorder ∧ t.notifier = s.notifier ∧ t.banks = s.banks ∧ t.mgmt = s.mgmt ∧ t.commit = s.commit

/-- What the outcome of an evaluation does at a head in PRESENTED or WAITING that a pass visits: an untracked posted write
goes to the tail of its target's egress queue with tag zero and moves the admission pointer past its port (R108, R116); a
diverted head waits for the management unit; a local answer is placed in class LOCAL where R31 gives room, with the head
removed and the fault reported after it, and else the head waits for answer room (R109); a drop removes the head, with its
fault after it; a wait keeps the head with its reason (R112). The management unit, free and owing no action, accepts the
first diverted head at or after its pointer whose port has no answer waiting: the head is removed, the port is HELD, the unit
BUSY and the pointer past the port (R117, R118). HEAD_PRESENTED visits the heads from the admission pointer on and then
accepts (R113, R114). LOCAL_ANSWER_PLACED: room given to LOCAL evaluates the waiting head anew with the room held; a local
answer takes it, and the fault is reported once (R109). -/
def Obligations.HeadTakesTheOutcomeOfItsEvaluation : Prop :=
  (∀ (h : HPort) (s : State) (p : Packet) (rest : List Packet), s.hosts[h].link.ingress = p :: rest →
    s.admission.heads[h] = .presented ∨ (∃ r, s.admission.heads[h] = .waiting r) →
    let left (v : State) : State := (v.setHost h fun y => { y with link := { y.link with ingress := rest } }).setHead h
      (if rest = [] then .noHead else .presented)
    (∀ x, s.decideHead h p = .admitting x → x.kind = none →
      s.visit h =
        (let v := left (s.setTarget x.target fun y => { y with link := { y.link with egress := y.link.egress ++
          [{ kindCode := p.kindCode, tag := 0, length := p.length, address := x.address, payload := p.payload }] } })
        { v with admission := { v.admission with pointer := h + 1 } })) ∧
    (s.decideHead h p = .divert → s.visit h = s.setHead h (.waiting .management)) ∧
    (∀ a f, s.decideHead h p = .answer a f →
      (s.givesRoom h .localAnswer = true → s.visit h = (left (s.setHost h fun y =>
        { y with link := { y.link with egress := y.link.egress ++ [a] }, classPtr := .management })).report f.toList) ∧
      (s.givesRoom h .localAnswer = false → s.visit h = s.setHead h (.waiting .answerRoom))) ∧
    (∀ f, s.decideHead h p = .drop f → s.visit h = (left s).report f.toList) ∧
    (∀ r, s.decideHead h p = .wait r → s.visit h = s.setHead h (.waiting r))) ∧
  (∀ (h : HPort) (s : State), s.admission.heads[h] = .noHead ∨ s.admission.heads[h] = .held → s.visit h = s) ∧
  (∀ (h : HPort) (s : State) (l : List HPort) (p : Packet) (rest : List Packet),
    let ready (g : HPort) : Prop := g ∈ l ∧ s.admission.heads[g] = .waiting .management ∧ s.mgmt.answers[g] = none
    let free : Prop := s.mgmt.unit = .free ∧ s.mgmt.action = none
    (free → ready h → (∀ g, ready g → (h - s.admission.mgmtPointer).val ≤ (g - s.admission.mgmtPointer).val) →
      s.hosts[h].link.ingress = p :: rest →
      s.acceptOne l =
        (let v := (s.setHost h fun y => { y with link := { y.link with ingress := rest } }).setHead h .held
        { v with
          admission := { v.admission with mgmtPointer := h + 1 }
          mgmt := { v.mgmt with unit := .accessing { port := h, packet := p } } })) ∧
    (¬ free ∨ (∀ g, ¬ ready g) → s.acceptOne l = s)) ∧
  (∀ (h : HPort) (s : State),
    let u : State := { s with admission := { s.admission with passDue := false } }
    let order := [s.admission.pointer, s.admission.pointer + 1, s.admission.pointer + 2, s.admission.pointer + 3]
    (s.admission.heads[h] = .presented → exec (.headPresented h) s =
      .next (State.settleIn 4 ((order.foldl State.visit u).acceptOne order))) ∧
    (s.admission.heads[h] ≠ .presented → exec (.headPresented h) s = .next s)) ∧
  (∀ (h : HPort) (s : State) (p a : Packet) (rest : List Packet) (f : Option Report),
    s.admission.heads[h] = .waiting .answerRoom → s.givesRoom h .localAnswer = true →
    s.hosts[h].link.ingress = p :: rest → s.decideHead h p = .answer a f →
    exec (.localAnswerPlaced h) s =
      .next (((((s.setHost h fun y => { y with
        link := { y.link with ingress := rest, egress := y.link.egress ++ [a] }
        classPtr := .management }).setHead h (if rest = [] then .noHead else .presented)).report
          f.toList).acceptOne [h]).settle))

/-- The passes of a step come to an end: a pass can cause another only by isolating a host port, so more than five are
never taken. That the passes run at the end of the step, and so their bound, is the model's choice (log entry 5). They
change no setting, no bank, nothing of the commit engine, no target port's state and no port's training, and leave no pass
owing (R113 to R116; log entry 5). -/
def Obligations.PassesEndAndKeepBanksAndSettings : Prop :=
  (∀ (s : State) (n : Nat), 5 ≤ n → State.settleIn n s = s.settle) ∧
  (∀ s : State, SameSettings s s.settle ∧ s.settle.banks = s.banks ∧ s.settle.commit = s.commit ∧
    s.settle.now = s.now ∧ s.settle.pending = s.pending ∧ s.settle.admission.passDue = false ∧
    (∀ d : DPort, s.settle.targets[d].link.state = s.targets[d].link.state) ∧
    (∀ p : Port, (s.settle.link p).attempts = (s.link p).attempts ∧ (s.settle.link p).tTrn = (s.link p).tTrn) ∧
    (s.admission.passDue = false → s.settle = s))

/-- Every step keeps each host port's head condition fitting its port, its queue and the management unit (R98, R117). -/
def Obligations.StepKeepsHeadConditionsFitting : Prop :=
  ∀ s t : State, HeadsFit s → UnitFits s → QuietPortsEmpty s → step s = .next t → HeadsFit t ∧ UnitFits t

/-- An aperture access begins only for a request that was well-formed and addressed to the aperture block, on a port
that holds grant (R49, R99, R101, R117). -/
def Obligations.OnlyGrantedRequestsReachTheUnit : Prop :=
  ∀ (s t : State) (a : Access), step s = .next t → t.mgmt.unit = .accessing a → s.mgmt.unit ≠ .accessing a →
    t.granted a.port = true ∧ a.packet.wellFormedRequest = true ∧ blockOf a.packet.address = t.mgmt.apertureBase

/-! ## The request tracker (chapters 7 and 8) -/

/-- An allocation toggles the entry's phase and places, in the tag field of the request packet sent to the target, the
D-tag: the entry's index times 2 plus its phase after the toggle; and the index is the D-tag divided by 2, the phase the
D-tag modulo 2 (R128). -/
def Obligations.DTagNamesItsEntryAndPhase : Prop :=
  (∀ (s : State) (h : HPort) (p : Packet) (x : Admitted) (k : EntryKind) (e : EntryIx),
    let t := s.allocate h p x k e
    (t.tracker.ort[e]).phase = !(s.tracker.ort[e]).phase ∧
    ∃ q : Packet, t.targets[x.target].link.egress = s.targets[x.target].link.egress ++ [q] ∧
      q.tag.toNat = e.val * 2 + ((t.tracker.ort[e]).phase).toNat ∧ q.tag.toNat ≤ 255) ∧
  (∀ (e : EntryIx) (phase : Bool), (dTag e phase).toNat = e.val * 2 + phase.toNat ∧
    tagEntry (dTag e phase) = e ∧ tagPhase (dTag e phase) = phase) ∧
  (∀ t : Byte, (tagEntry t).val = t.toNat / 2 ∧ (tagPhase t).toNat = t.toNat % 2 ∧
    dTag (tagEntry t) (tagPhase t) = t)

/-- The match of a completion with the entry its tag names is matched, late or unexpected exactly as the table of R146
says; a COMPLETION_MATCH that does not match discards the completion, changes nothing at the named entry, sends no host
anything, and reports LATE_COMPLETION or UNEXPECTED_COMPLETION with the packet's header (R145, R146, R160). -/
def Obligations.UnmatchedCompletionIsDiscarded : Prop :=
  (∀ (e : Entry) (d : DPort) (t : Byte),
    (e.compare d t = .matched ↔
      (e.state = .waiting ∨ e.state = .receiving) ∧ e.target = d ∧ e.phase.toNat = t.toNat % 2 ∧ e.sent = true) ∧
    (e.compare d t = .late ↔ e.state = .quarantined ∧ e.target = d ∧ e.phase.toNat = t.toNat % 2)) ∧
  (∀ (d : DPort) (s : State) (c : Packet) (e : Entry), s.completionAt d = some c →
    e = s.tracker.ort[tagEntry c.tag] →
    (e.compare d c.tag = .late → exec (.completionMatch d) s =
      .next ((s.popIngress (.target d)).report
        [{ kind := .lateCompletion, port := .target d, entry := some (tagEntry c.tag),
           hostTag := if e.kind = .writeConverted then none else some e.hostTag,
           window := some e.window, address := some e.address, detail := .none,
           capture := some c.capture }]).settle) ∧
    (e.compare d c.tag = .unexpected → exec (.completionMatch d) s =
      .next ((s.popIngress (.target d)).report
        [{ kind := .unexpectedCompletion, port := .target d, entry := some (tagEntry c.tag),
           capture := some c.capture }]).settle))

/-- COMPLETION_MATCH of a matched completion: a good chunk raises bytes delivered and, when final, frees the entry; a
status frees it; what breaks the rules of the kind quarantines it until t_QRT has passed; the faults are reported in the order
of R149 to R152, and after them a drain whose last entry has left flight is complete; and the host of an entry that is
neither orphaned nor converted is sent the packet of R147, which waits at the ingress head until room is given (R89, R92,
R147 to R153). That the swap follows the reports in the same step is the model's reading (log entry 9). -/
def Obligations.MatchedCompletionIsHandledByKind : Prop :=
  ∀ (d : DPort) (s : State) (c : Packet) (ix : EntryIx) (e : Entry), s.completionAt d = some c →
    ix = tagEntry c.tag → e = s.tracker.ort[ix] → e.compare d c.tag = .matched →
    let good := e.kind = .read ∧ c.kind = some .cpd ∧ c.offset.toNat = e.delivered ∧ 1 ≤ c.length.toNat ∧
      c.offset.toNat + c.length.toNat ≤ e.length.toNat ∧
      (c.final = true ↔ c.offset.toNat + c.length.toNat = e.length.toNat)
    let byStatus := c.kind = some .cps ∧ ¬ (e.kind = .read ∧ c.status = 0)
    let free : Entry := { e with state := .free, deadline := none, quarantine := none }
    let kept : Entry := { e with state := .quarantined, deadline := none,
                                 quarantine := some (s.now + tQrt s.targets[d].timeoutCode) }
    let failure : FaultKind := if e.kind = .writeConverted then .absorbedWriteFailed else .targetAbort
    let faults (ks : List FaultKind) : List Report := ks.map fun k =>
      { kind := k, port := .target e.target, entry := some ix,
        hostTag := if e.kind = .writeConverted then none else some e.hostTag,
        window := some e.window, address := some e.address, detail := .none, capture := some c.capture }
    let send (u : State) (q : Packet) : State :=
      if e.orphaned = false ∧ e.kind ≠ .writeConverted then u.produce d e.host q else u.popIngress (.target d)
    let chunk : Packet := { kindCode := 4, tag := e.hostTag, length := c.length, offset := c.offset,
                            final := c.final, status := c.status, payload := c.payload }
    let cps (code : Byte) : Packet := { kindCode := 5, tag := e.hostTag, status := code, final := true }
    (good → c.final = false → exec (.completionMatch d) s =
      .next (send (s.setEntry ix fun _ =>
        { e with state := .receiving, delivered := e.delivered + c.length.toNat }) chunk).drainCheck.settle) ∧
    (good → c.final = true → exec (.completionMatch d) s =
      .next (send (s.setEntry ix fun _ =>
        { free with delivered := e.delivered + c.length.toNat }).wake chunk).drainCheck.settle) ∧
    (byStatus → exec (.completionMatch d) s =
      .next ((send (s.setEntry ix fun _ => free).wake (cps (if c.status = 0 then 0 else 5))).report
        (faults (if c.status = 0 then [] else if c.status = 5 then [failure]
          else [failure, .completionMismatch]))).drainCheck.settle) ∧
    (¬ good → ¬ byStatus → exec (.completionMatch d) s =
      .next ((send (s.setEntry ix fun _ => kept).wake (cps 5)).report
        (faults [.completionMismatch])).drainCheck.settle)

/-- TRACKER_PACKET_PLACED: given room, the tracker places the candidate of the first target port at or after the host
port's pointer, from an ingress head or from the answer list, and moves the pointer past that target (R153 to R155). -/
def Obligations.TrackerPlacesTheNextCandidate : Prop :=
  ∀ (h : HPort) (s : State) (d : DPort), s.givesRoom h .tracker = true →
    (∀ c : DPort, (c - s.tracker.pointers[h]).val < (d - s.tracker.pointers[h]).val → s.tracker.candidate h c = none) →
    (∀ w, s.tracker.candidate h d = some (.head w) → s.admission.passDue = false →
      exec (.trackerPacketPlaced h) s = .next { s with
        hosts := s.hosts.set h { s.hosts[h] with
          link := { s.hosts[h].link with egress := s.hosts[h].link.egress ++ [w.packet] }, classPtr := .notification }
        targets := s.targets.set d { s.targets[d] with
          link := { s.targets[d].link with ingress := s.targets[d].link.ingress.tail } }
        tracker := { s.tracker with
          waiting := s.tracker.waiting.set d none, pointers := s.tracker.pointers.set h (d + 1) } }) ∧
    (∀ a, s.tracker.candidate h d = some (.item a) →
      exec (.trackerPacketPlaced h) s = .next (State.settle { s with
        hosts := s.hosts.set h { s.hosts[h] with
          link := { s.hosts[h].link with egress := s.hosts[h].link.egress ++
            [{ kindCode := 5, tag := a.hostTag, status := a.status.code, final := true }] }
          classPtr := .notification }
        tracker := { s.tracker with
          answers := s.tracker.answers.set h ((s.tracker.answers[h]).erase a)
          pointers := s.tracker.pointers.set h (d + 1) }
        admission := { s.admission with passDue := true } }))

/-- EXPIRY of an entry in flight: unsent, its request is withdrawn and its state alone becomes FREE; sent, it is QUARANTINED
for the t_QRT of the code in force; the host of an entry that is neither orphaned nor converted is owed CPS EXPIRED;
COMPLETION_TIMEOUT is reported with its detail, and after it a drain whose last entry has left flight is complete (R89, R92,
R124, R136 to R138, R156, R157, R160). QUARANTINE_END makes the entry FREE with its phase and its other fields kept, and wakes
admission (R124, R138). The moments are the model's choice, and that the swap follows the report in the same step is its
reading (log entries 4 and 9). -/
def Obligations.ExpiryFreesOrQuarantines : Prop :=
  (∀ (ix : EntryIx) (s : State) (e : Entry) (m : Nat), e = s.tracker.ort[ix] →
    e.state = .waiting ∨ e.state = .receiving → e.deadline = some m →
    let u : State := { s with now := max s.now m }
    let after (v : State) : State :=
      ((if e.orphaned = false ∧ e.kind ≠ .writeConverted then v.wake.appendAnswer e.host e.hostTag .expired e.target
        else v.wake).report
        [{ kind := .completionTimeout, port := .target e.target, entry := some ix,
           hostTag := if e.kind = .writeConverted then none else some e.hostTag,
           window := some e.window, address := some e.address,
           detail := if e.sent = false then .notSent else if e.kind = .writeConverted then .absorbed
             else .none }]).drainCheck.settle
    (e.sent = false → exec (.expiry ix) s =
      .next (after ((u.setTarget e.target fun x => { x with link := { x.link with
        egress := x.link.egress.filter fun p =>
          !((p.kind == some .rdq || p.kind == some .waq) && p.tag == dTag ix e.phase) } }).setEntry ix fun _ =>
            { e with state := .free }))) ∧
    (e.sent = true → exec (.expiry ix) s =
      .next (after (u.setEntry ix fun _ =>
        { e with
          state := .quarantined, deadline := none,
          quarantine := some (u.now + tQrt s.targets[e.target].timeoutCode) })))) ∧
  (∀ (ix : EntryIx) (s : State) (m : Nat), (s.tracker.ort[ix]).state = .quarantined →
    (s.tracker.ort[ix]).quarantine = some m →
    exec (.quarantineEnd ix) s = .next (({ s with now := max s.now m }.setEntry ix fun e =>
      { e with state := .free, deadline := none, quarantine := none }).wake).settle)

/-- Every step keeps every entry that is not FREE aimed at a target port in UP: a target that leaves UP is purged at that
event (R135, R158). -/
def Obligations.StepKeepsEntriesAimedAtUpTargets : Prop :=
  ∀ s t : State, EntriesAimAtUpTargets s → step s = .next t → EntriesAimAtUpTargets t

/-- Every step keeps the host tags of a host's live entries distinct (R130). -/
def Obligations.StepKeepsHostTagsUnique : Prop :=
  ∀ s t : State, HostTagsUnique s → step s = .next t → HostTagsUnique t

/-- Every step keeps every entry's fields fitting its state and kind (R123 to R126, R138). -/
def Obligations.StepKeepsEntriesFitting : Prop :=
  ∀ s t : State, EntriesFit s → step s = .next t → EntriesFit t

/-- Every step keeps a draining commit waiting for some entry in flight: the event that takes out the last one takes the
swap (R89). -/
def Obligations.StepKeepsTheDrainWaiting : Prop :=
  ∀ s t : State, DrainHasWork s → step s = .next t → DrainHasWork t

/-- Every step keeps each host's answer list, with the entries and waiting packets that can still add to it, within the
capacity of 134 (R107, R154). -/
def Obligations.StepKeepsAnswerListsBounded : Prop :=
  ∀ s t : State, AnswerListsBounded s → step s = .next t → AnswerListsBounded t

/-! ## Settings, banks and commit (chapters 2, 3, 5 and 11) -/

/-- No command but a cold reset and the register writes changes a setting (R25 to R28, R41, R44, R60, R165, R194, R195,
R197, R204). -/
def Obligations.SettingsChangeOnlyByTheirWrites : Prop :=
  ∀ (c : Instr) (s t : State), exec c s = .next t → c.writesSettings = false → SameSettings s t

/-- Every step keeps every setting in its range (R41, R96, R164, R165, R190, R193, R197). -/
def Obligations.StepKeepsSettingsLegal : Prop :=
  ∀ s t : State, SettingsLegal s → step s = .next t → SettingsLegal t

/-- Every step keeps an active bank in which no valid window and no valid group breaks a condition: limit at or above base,
a named destination kind and port, a translated range below 2^44, a valid group, no block shared with a valid window of the
same class; two or four distinct members that are target ports, and a named granule (R47, R66). The staging bank meets the
same conditions while a drain waits to swap it in (R81). -/
def Obligations.StepKeepsTheActiveBankValid : Prop :=
  ∀ s t : State, BanksLegal s → step s = .next t → BanksLegal t

/-- Validation of a bank takes the valid windows in ascending index, then the valid groups, then the pairs of valid
windows, and answers the first failure with its code and indices: BAD_WINDOW with the window for a limit below the base, a
destination kind or port that names none, or a translated range beyond the space; after these BAD_GROUP with group and window
for a group that is not valid; BAD_GROUP with the group for a group's own fields; OVERLAP with both windows for the first pair
of one class that shares a block. It answers none exactly where the bank breaks no condition of R47 and R66 (R81 to R84). -/
def Obligations.ValidationAnswersTheFirstFailure : Prop :=
  ∀ b : Bank,
    let bad (w : Window) : Prop := w.limit.toNat < w.base.toNat ∨ w.destKind = 3 ∨ (w.destKind = 0 ∧ 6 ≤ w.destPort.toNat) ∨
      ((w.destKind = 0 ∨ w.destKind = 1) ∧
        2 ^ 24 ≤ w.translationBase.toNat + (w.limit.toNat - w.base.toNat))
    let unnamed (w : Window) : Prop := w.destKind = 1 ∧ (b.groups[w.group]).valid = false
    let malformed (g : Group) : Prop := (g.memberCount ≠ 2 ∧ g.memberCount ≠ 4) ∨
      (∃ i, i < g.memberCount.toNat ∧ 6 ≤ (g.memberAt i).toNat) ∨
      (∃ i j, i < j ∧ j < g.memberCount.toNat ∧ g.memberAt i = g.memberAt j) ∨ g.granuleCode = 3
    let windowFails (i : WinIx) : Prop := (b.windows[i]).valid = true ∧ (bad b.windows[i] ∨ unnamed b.windows[i])
    let groupFails (i : GroupIx) : Prop := (b.groups[i]).valid = true ∧ malformed b.groups[i]
    let pairFails (i j : WinIx) : Prop := i < j ∧ (b.windows[i]).valid = true ∧ (b.windows[j]).valid = true ∧
      (b.windows[i]).level = (b.windows[j]).level ∧ (b.windows[i]).base.toNat ≤ (b.windows[j]).limit.toNat ∧
      (b.windows[j]).base.toNat ≤ (b.windows[i]).limit.toNat
    (∀ i, windowFails i → (∀ j, j < i → ¬ windowFails j) →
      b.validate = if bad b.windows[i] then some ⟨.badWindow, i.val, none⟩
        else some ⟨.badGroup, (b.windows[i]).group.val, some i.val⟩) ∧
    (∀ i, (∀ j, ¬ windowFails j) → groupFails i → (∀ j, j < i → ¬ groupFails j) →
      b.validate = some ⟨.badGroup, i.val, none⟩) ∧
    (∀ i j, (∀ k, ¬ windowFails k) → (∀ k, ¬ groupFails k) → pairFails i j →
      (∀ k l, pairFails k l → i < k ∨ (i = k ∧ j ≤ l)) → b.validate = some ⟨.overlap, i.val, some j.val⟩) ∧
    (b.validate = none ↔ BankLegal b)

/-- The active bank and the generation change only together, at a swap that copies the staging bank and raises the
generation by one, or at a cold reset; the staging bank changes only by a staging write or a reseed while the engine is
IDLE, or at a cold reset (R45, R76, R78, R91). -/
def Obligations.BanksChangeOnlyBySwapOrStagingWrite : Prop :=
  ∀ (c : Instr) (s t : State), exec c s = .next t → (∀ aps mgs, c ≠ .coldReset aps mgs) →
    ((t.banks.active = s.banks.active ∧ t.banks.generation = s.banks.generation) ∨
      (t.banks.active = s.banks.staging ∧ t.banks.generation = s.banks.generation + 1 ∧
        t.commit.engine = .idle ∧ t.commit.result =
          { code := .done, first := none, second := none, generation := s.banks.generation + 1 })) ∧
    (t.banks.staging = s.banks.staging ∨
      (s.commit.engine = .idle ∧ (c = .stagingWrite ∨ c = .reseedStaging)))

/-- COMMIT in IDLE with a legal mode is taken: VALIDATING with the mode recorded, result DONE, answered OK; a mode that
names neither is refused DENIED; outside IDLE every COMMIT is refused BUSY with the result word kept. RESEED_STAGING in
IDLE copies active into staging, and is refused BUSY elsewhere (R78 to R80, R199). -/
def Obligations.CommitAndReseedAreTakenInIdle : Prop :=
  ∀ (s : State) (a : Access),
    let ended (u : State) (st : Status) : Host.Outcome State Fault Refusal :=
      .next (u.completeAccess a (a.statusAnswer st)).settle
    let result (u : State) (code : Byte) (o : CommandOutcome) : State :=
      { u with mgmt := { u.mgmt with result := { code := code, outcome := o } } }
    (s.executes a .commit →
      (s.commit.engine = .idle → a.argument = 0 → exec .commit s =
        ended (result { s with commit := { s.commit with engine := .validating .immediate } } 0x01 .done) .ok) ∧
      (s.commit.engine = .idle → a.argument = 1 → exec .commit s =
        ended (result { s with commit := { s.commit with engine := .validating .drain } } 0x01 .done) .ok) ∧
      (s.commit.engine = .idle → a.argument ≠ 0 → a.argument ≠ 1 → exec .commit s =
        ended (result s 0x01 .denied) .denied) ∧
      (s.commit.engine ≠ .idle → exec .commit s = ended s .busy)) ∧
    (s.executes a .reseedStaging →
      (s.commit.engine = .idle → exec .reseedStaging s =
        ended (result { s with banks := { s.banks with staging := s.banks.active } } 0x02 .done) .ok) ∧
      (s.commit.engine ≠ .idle → exec .reseedStaging s = ended s .busy))

/-- VALIDATION_COMPLETE: a failed check ends the commit with its code and indices; a bank that passes is swapped in, at
once in mode IMMEDIATE or with nothing in flight, and otherwise the drain begins with t_DRN started (R79, R85 to R87, R91).
DRAIN_COMPLETE with nothing in flight takes the swap and lifts the pause, as the event that empties the drain does of itself
(log entry 9); T_DRN_EXPIRY while DRAINING gives the commit up as DRAIN_EXPIRED with banks and generation kept, and lifts the
pause (R89 to R91). The moments are the model's choice (log entry 4). -/
def Obligations.CommitEndsInFailureSwapOrExpiry : Prop :=
  (∀ (s : State) (m : CommitMode), s.commit.engine = .validating m →
    let ended (r : CommitResult) : CommitEngine := { s.commit with engine := .idle, tDrn := none, result := r }
    (∀ f, s.banks.staging.validate = some f → exec .validationComplete s = .next (State.settle { s with
      commit := ended { code := f.code, first := some f.first, second := f.second,
                        generation := s.banks.generation } })) ∧
    (s.banks.staging.validate = none → m = .immediate ∨ s.tracker.inFlightCount = 0 →
      exec .validationComplete s = .next (State.settle { s with
        banks := { active := s.banks.staging, staging := s.banks.staging, generation := s.banks.generation + 1 }
        commit := ended { code := .done, first := none, second := none, generation := s.banks.generation + 1 }
        admission := { s.admission with passDue := true } })) ∧
    (s.banks.staging.validate = none → m = .drain → s.tracker.inFlightCount ≠ 0 →
      exec .validationComplete s = .next (State.settle { s with
        commit := { s.commit with
          engine := .draining, tDrn := some (s.now + 1000 * s.commit.drainDeadline) } }))) ∧
  (∀ s : State, s.commit.engine ≠ .draining ∨ s.tracker.inFlightCount ≠ 0 → s.drainCheck = s) ∧
  (∀ s : State, s.commit.engine = .draining →
    let ended (r : CommitResult) : CommitEngine := { s.commit with engine := .idle, tDrn := none, result := r }
    (s.tracker.inFlightCount = 0 → exec .drainComplete s = .next s.drainCheck.settle ∧ s.drainCheck = { s with
      banks := { active := s.banks.staging, staging := s.banks.staging, generation := s.banks.generation + 1 }
      commit := ended { code := .done, first := none, second := none, generation := s.banks.generation + 1 }
      admission := { s.admission with passDue := true } }) ∧
    (∀ m, s.commit.tDrn = some m → exec .tDrnExpiry s = .next (State.settle { s with
      now := max s.now m
      commit := ended { code := .drainExpired, first := none, second := none, generation := s.banks.generation }
      admission := { s.admission with passDue := true } })))

/-! ## The aperture (chapter 11) -/

/-- The end of an aperture access makes the management unit FREE and lets the port leave HELD; the answer enters the
egress queue in class MANAGEMENT where R31 gives room, waits where it gives none, and is discarded where the port carries
no packets (R30, R35, R117). -/
def Obligations.CompletedAccessFreesTheUnit : Prop :=
  ∀ (s : State) (a : Access) (p : Packet), s.mgmt.unit = .accessing a →
    let h := a.port
    let carries := s.hosts[h].link.state = .up ∨ s.hosts[h].link.state = .isolated
    let t := s.completeAccess a (some p)
    t.mgmt.unit = .free ∧ t.mgmt.action = s.mgmt.action ∧ t.admission.passDue = true ∧
    t.admission.heads[h] =
      (if s.admission.heads[h] = .held then
        if s.hostUp h = true ∧ s.hosts[h].link.ingress ≠ [] then .presented else .noHead
      else s.admission.heads[h]) ∧
    (carries → s.givesRoom h .management = true →
      t.hosts[h].link.egress = s.hosts[h].link.egress ++ [p] ∧ t.mgmt.answers[h] = none ∧
        t.hosts[h].classPtr = .tracker) ∧
    (carries → s.givesRoom h .management = false →
      t.hosts[h] = s.hosts[h] ∧ t.mgmt.answers[h] = some p) ∧
    (¬ carries → t.hosts[h] = s.hosts[h] ∧ t.mgmt.answers[h] = s.mgmt.answers[h]) ∧
    t.tracker = s.tracker ∧ t.banks = s.banks ∧ t.commit = s.commit ∧ t.recorder = s.recorder ∧
    t.notifier = s.notifier ∧ t.targets = s.targets ∧ SameSettings s t

/-- LATCHED_READ, which ends every aperture read: one CPD of 8 bytes under the request's tag; a read of word 0 of a
record copies the record into the reading port's latch, a later word comes from the latch that holds the record, and no
other port's latch is touched (R196, R198). MALFORMED_APERTURE_ACCESS: an access of another length than 8 or at an offset that
is no multiple of 8 is answered CPS MALFORMED, or not at all if posted, and MALFORMED_REQUEST is reported after the access has
completed (R196). -/
def Obligations.ReadsAndMalformedAccessesAreAnswered : Prop :=
  (∀ (s : State) (a : Access), s.executes a .latchedRead →
    let answer (v : Word) : Option Packet := some { kindCode := 4, tag := a.packet.tag, length := 8, final := true,
                                                    payload := leBytes 8 v.toNat }
    (a.reg.latched = none → exec .latchedRead s = .next (s.completeAccess a (answer (s.liveWord a.reg))).settle) ∧
    (∀ r, a.reg.latched = some (r, 0) → exec .latchedRead s = .next (({ s with mgmt := { s.mgmt with
      latches := s.mgmt.latches.set a.port (some { record := r, words := s.recordWords r }) } } : State).completeAccess a
        (answer (s.liveWord a.reg))).settle) ∧
    (∀ r i ws, a.reg.latched = some (r, i + 1) → s.mgmt.latches[a.port] = some { record := r, words := ws } →
      exec .latchedRead s = .next (s.completeAccess a (answer (ws.getD (i + 1) 0))).settle) ∧
    (∀ r i, a.reg.latched = some (r, i + 1) → (∀ l, s.mgmt.latches[a.port] = some l → l.record ≠ r) →
      exec .latchedRead s = .next (s.completeAccess a (answer (s.liveWord a.reg))).settle)) ∧
  (∀ (s : State) (a : Access), s.mgmt.unit = .accessing a →
    (a.packet.length ≠ 8 ∨ a.packet.address.toNat % 8 ≠ 0) →
    exec .malformedApertureAccess s = .next ((s.completeAccess a
      (if a.packet.kind = some .wpq then none
        else some { kindCode := 5, tag := a.packet.tag, status := 3, final := true })).report
      [{ kind := .malformedRequest, port := .host a.port,
         hostTag := if a.packet.kind = some .wpq then none else some a.packet.tag,
         address := some a.packet.address, capture := some a.packet.capture }]).settle)

/-- What a read of the aperture shows, word by word, each field at its bits and every other bit zero: the words at their
offsets; identification with the number of entries in each state, which sum to 128; the settings and the command result; the
commit status, an absent index as 255; the port records with the tracker's counts; the fault queue's counters and head, zero
while it is empty; the snapshot; the channel state and the pending items; the bank records; the ORT records. The command word,
the acknowledge word and unassigned words read zero. A bank record written back is the record it was read from (R43, R59, R76,
R77, R95, R141, R168, R170, R172, R184, R185, R187, R199, R203, R205). -/
def Obligations.ApertureShowsTheState : Prop :=
  let put (lo n : Nat) : Word := BitVec.ofNat 64 n <<< lo
  let flag (lo : Nat) (b : Bool) : Word := if b then 1#64 <<< lo else 0#64
  ([0x0, 0x8, 0x10, 0x100, 0x108, 0x110, 0x118, 0x120, 0x128, 0x130, 0x200, 0x208, 0x300, 0x308, 0x3000, 0x3010, 0x3018,
      0x3020, 0x3100, 0x3120, 0x4000, 0x4008, 0x4100, 0x18, 0x5000].map regAt =
    [.identification 0, .identification 1, .identification 2, .grantSet, .supervisorPort, .apertureBase,
      .notificationAddress, .tRntCode, .resendLimit, .drainDeadline, .commandWord, .commandResult, .commitStatus 0,
      .commitStatus 1, .faultCounters, .faultHead 0, .faultHead 1, .faultHead 2, .snapshot 0, .snapshot 4, .channelState,
      .acknowledge, .pendingOccupancy, .unassigned, .unassigned]) ∧
  (∀ (p : Port) (i : Fin 4), regAt (0x1000 + 32 * portCode p + 8 * i.val) = .portRecord p i) ∧
  (∀ k : FaultKind, regAt (0x2000 + 8 * k.code.val) = .faultClass k) ∧
  (∀ (n : Fin 8) (i : Fin 2), regAt (0x4140 + 16 * n.val + 8 * i.val) = .pendingItem n i) ∧
  (∀ (n : WinIx) (i : Fin 4), regAt (0x10000 + 32 * n.val + 8 * i.val) = .stagingWindow n i ∧
    regAt (0x20000 + 32 * n.val + 8 * i.val) = .activeWindow n i) ∧
  (∀ (n : GroupIx) (i : Fin 2), regAt (0x10400 + 16 * n.val + 8 * i.val) = .stagingGroup n i ∧
    regAt (0x20400 + 16 * n.val + 8 * i.val) = .activeGroup n i) ∧
  (∀ (e : EntryIx) (i : Fin 2), regAt (0x30000 + 16 * e.val + 8 * i.val) = .ortEntry e i) ∧
  (∀ s : State,
    let inState (st : EntryState) : Nat := s.tracker.ort.toList.countP fun e => e.state == st
    s.liveWord (.identification 0) = 0x0000000146100C3B ∧
    s.liveWord (.identification 1) =
      put 0 4 ||| put 8 6 ||| put 16 32 ||| put 24 4 ||| put 32 128 ||| put 40 16 ||| put 48 8 ∧
    s.liveWord (.identification 2) = put 0 (inState .free) ||| put 16 (inState .waiting) |||
      put 32 (inState .receiving) ||| put 48 (inState .quarantined) ∧
    inState .free + inState .waiting + inState .receiving + inState .quarantined = 128 ∧
    s.liveWord .grantSet = put 0 s.mgmt.grant.toNat ∧ s.liveWord .supervisorPort = put 0 s.mgmt.supervisor.val ∧
    s.liveWord .apertureBase = put 0 s.mgmt.apertureBase.toNat ∧
    s.liveWord .notificationAddress = put 0 s.notifier.address.toNat ||| flag 63 (s.notifier.channel != .disabled) ∧
    s.liveWord .tRntCode = put 0 s.notifier.tRntCode ∧ s.liveWord .resendLimit = put 0 s.notifier.resendLimit ∧
    s.liveWord .drainDeadline = put 0 s.commit.drainDeadline ∧
    s.liveWord .commandWord = 0 ∧ s.liveWord .acknowledge = 0 ∧ s.liveWord .unassigned = 0 ∧
    s.liveWord .commandResult = put 0 s.mgmt.result.code.toNat |||
      put 8 (match s.mgmt.result.outcome with | .done => 0 | .empty => 2 | .denied => 3) ∧
    (∀ k : FaultKind, s.liveWord (.faultClass k) =
      put 0 (match s.classOf k with | .ignore => 0 | .record => 1 | .notify => 2 | .isolate => 3)) ∧
    s.liveWord (.commitStatus 0) = put 0 (match s.commit.result.code with
        | .none => 0 | .done => 1 | .badWindow => 2 | .badGroup => 3 | .overlap => 4 | .drainExpired => 5
        | .abandoned => 6) |||
      put 8 (s.commit.result.first.getD 255) ||| put 16 (s.commit.result.second.getD 255) |||
      put 32 s.commit.result.generation.toNat ∧
    s.liveWord (.commitStatus 1) = (match s.commit.engine with
        | .idle => 0 | .validating m => put 0 1 ||| flag 4 (m == .drain) | .draining => put 0 2 ||| flag 4 true) |||
      put 32 s.banks.generation.toNat) ∧
  (∀ (s : State) (p : Port),
    let u := s.link p
    s.liveWord (.portRecord p 0) = put 0 (match u.state with
        | .disabled => 0 | .down => 1 | .training => 2 | .up => 3 | .isolated => 4 | .failed => 5) |||
      put 8 u.attempts ||| put 16 u.ingress.length ||| put 24 u.egress.length |||
      put 32 (match p with | .host h => s.tracker.hostCount h | .target d => s.tracker.targetCount d) ∧
    s.liveWord (.portRecord p 3) = 0 ∧
    (∀ h, p = .host h → s.liveWord (.portRecord p 1) = put 0 u.attemptLimit ||| put 8 s.hosts[h].outstandingLimit ∧
      s.liveWord (.portRecord p 2) = 0) ∧
    (∀ d, p = .target d → s.liveWord (.portRecord p 1) = put 0 u.attemptLimit ∧
      s.liveWord (.portRecord p 2) = put 0 s.targets[d].outstandingLimit ||| put 8 s.targets[d].timeoutCode.val |||
        put 12 (match s.targets[d].threshold with | .info => 1 | .degraded => 2 | .failing => 3) |||
        flag 16 s.targets[d].isolateOnFailing)) ∧
  (∀ (s : State) (n : EntryIx),
    let e := s.tracker.ort[n]
    s.liveWord (.ortEntry n 0) = put 0 (match e.state with
        | .free => 0 | .waiting => 1 | .receiving => 2 | .quarantined => 3) ||| flag 2 e.phase |||
      put 4 (match e.kind with | .read => 0 | .writeAck => 1 | .writeConverted => 2) ||| put 8 e.host.val |||
      put 12 e.target.val ||| flag 16 e.sent ||| flag 17 e.orphaned ||| flag 18 e.absorbed ||| flag 19 e.deadline.isSome |||
      put 24 e.hostTag.toNat ||| put 32 e.length.toNat ||| put 44 e.delivered ||| put 56 e.window.val ∧
    s.liveWord (.ortEntry n 1) = put 0 e.address.toNat ||| put 48 e.generation.toNat) ∧
  (∀ s : State,
    let word0 (f : FaultRecord) : Word := put 8 f.kind.code.val ||| put 16 (portCode f.port) |||
      put 32 f.sequence.toNat ||| (match f.detail with
        | .none => 0 | .notSent => put 48 1 | .absorbed => put 48 2 | .isolationWithheld => put 48 3
        | .count n => put 48 4 ||| put 56 n)
    let word1 (f : FaultRecord) : Word :=
      (match f.entry with | some e => put 0 e.val ||| flag 7 true | none => 0) |||
      (match f.hostTag with | some t => put 8 t.toNat ||| flag 16 true | none => 0) |||
      (match f.window with | some w => put 24 w.val ||| flag 31 true | none => 0) ||| put 32 f.generation.toNat
    let word2 (f : FaultRecord) : Word := match f.address with | some a => put 0 a.toNat ||| flag 63 true | none => 0
    s.liveWord .faultCounters = put 0 s.recorder.queue.length ||| flag 8 s.recorder.overflow |||
      put 16 s.recorder.sequence.toNat ∧
    (s.recorder.queue = [] → ∀ i, s.liveWord (.faultHead i) = 0) ∧
    (∀ f rest, s.recorder.queue = f :: rest → s.liveWord (.faultHead 0) = flag 0 true ||| word0 f ∧
      s.liveWord (.faultHead 1) = word1 f ∧ s.liveWord (.faultHead 2) = word2 f) ∧
    s.liveWord (.snapshot 0) = flag 0 s.recorder.snapshot.held ||| flag 1 s.recorder.snapshot.multiple |||
      ((s.recorder.snapshot.record.map word0).getD 0) ∧
    s.liveWord (.snapshot 1) = (s.recorder.snapshot.record.map word1).getD 0 ∧
    s.liveWord (.snapshot 2) = (s.recorder.snapshot.record.map word2).getD 0 ∧
    s.liveWord (.snapshot 3) = (match s.recorder.snapshot.capture with
      | some c => flag 0 true ||| put 8 c.kindCode.toNat ||| put 16 c.tag.toNat ||| put 24 c.length.toNat
      | none => 0) ∧
    s.liveWord (.snapshot 4) = (match s.recorder.snapshot.capture with | some c => put 0 c.address.toNat | none => 0)) ∧
  (∀ s : State,
    let n := s.notifier
    s.liveWord .channelState = put 0 (match n.channel with
        | .disabled => 0 | .idle => 1 | .awaitingAck => 2 | .stalled => 3) ||| put 4 n.resends |||
      flag 8 n.noticesLost ||| (match n.outstanding with
        | some o => flag 9 true ||| put 16 o.sequence.toNat | none => 0) ||| put 32 n.sequence.toNat ∧
    s.liveWord .pendingOccupancy = put 0 n.items.length ∧
    (∀ (i : Fin 8) (w : Fin 2), n.items.length ≤ i.val → s.liveWord (.pendingItem i w) = 0) ∧
    (∀ (i : Fin 8) (x : PendingItem), n.items[i.val]? = some x →
      let common := flag 1 x.sent ||| put 8 (portCode x.source) ||| put 24 x.repeatCount.toNat
      (∀ dev sev code arg, x.kind = .alert dev sev code arg → s.liveWord (.pendingItem i 0) = common |||
          put 16 dev.toNat ||| put 20 (match sev with | .info => 1 | .degraded => 2 | .failing => 3) |||
          put 32 code.toNat ∧ s.liveWord (.pendingItem i 1) = put 0 arg.toNat) ∧
      (∀ k q, x.kind = .fault k q → s.liveWord (.pendingItem i 0) = common ||| flag 0 true |||
        put 32 k.code.val ||| put 48 q.toNat ∧ s.liveWord (.pendingItem i 1) = 0))) ∧
  (∀ s : State,
    let window0 (w : Window) : Word := flag 0 w.valid ||| put 1 w.level.toNat ||| flag 3 w.readAllowed |||
      flag 4 w.writeAllowed ||| put 8 w.hostSet.toNat ||| put 12 w.destKind.toNat ||| put 16 w.destPort.toNat |||
      put 20 w.group.val ||| flag 24 w.convert
    let shows (r : Fin 4 → Reg) (w : Window) : Prop := s.liveWord (r 0) = window0 w ∧
      s.liveWord (r 1) = put 0 w.base.toNat ||| put 32 w.limit.toNat ∧
      s.liveWord (r 2) = put 0 w.translationBase.toNat ∧ s.liveWord (r 3) = 0
    let showsGroup (r : Fin 2 → Reg) (g : Group) : Prop := s.liveWord (r 0) = flag 0 g.valid |||
        put 4 g.memberCount.toNat ||| put 8 g.granuleCode.toNat ||| flag 12 g.compaction ∧
      s.liveWord (r 1) = put 0 g.member0.toNat ||| put 8 g.member1.toNat ||| put 16 g.member2.toNat |||
        put 24 g.member3.toNat
    (∀ n, shows (Reg.activeWindow n) s.banks.active.windows[n] ∧ shows (Reg.stagingWindow n) s.banks.staging.windows[n]) ∧
    (∀ n, showsGroup (Reg.activeGroup n) s.banks.active.groups[n] ∧
      showsGroup (Reg.stagingGroup n) s.banks.staging.groups[n])) ∧
  (∀ v w : Window, ((v.withWord 0 (w.word 0)).withWord 1 (w.word 1)).withWord 2 (w.word 2) = w) ∧
  (∀ f g : Group, (f.withWord 0 (g.word 0)).withWord 1 (g.word 1) = g)

/-- GRANT_SET_WRITE, APERTURE_BASE_WRITE and FAULT_CLASS_WRITE: a non-empty grant set, any block number and an
allowed class are taken and are in force from then on; an empty set and a class the kind does not allow are refused
DENIED and change nothing (R165, R195 to R197). SETTING_WRITE ends every other write: the drain deadline takes 1 to 255, the
t_RNT code 0 to 6 and the re-send limit 0 to 7; values outside are refused DENIED, and so is every write to a read-only or
unassigned word (R96, R193, R196). STAGING_WRITE in IDLE takes every field of the written word as it stands and keeps the
record's other words; outside IDLE it is refused BUSY; word 3 of a window record is unassigned and refused DENIED in every
engine state (R76, R196). -/
def Obligations.RegisterWritesTakeEffectOrAreRefused : Prop :=
  (∀ (s : State) (a : Access),
    let ended (u : State) (st : Status) : State := (u.completeAccess a (a.statusAnswer st)).settle
    let refused (c : Instr) : Prop := ∃ t, exec c s = .next t ∧ t = ended s .denied ∧ SameSettings s t
    (s.executes a .grantSetWrite →
      (bits a.value 0 4 ≠ 0 → ∃ t, exec .grantSetWrite s = .next t ∧ t.mgmt.grant = bits a.value 0 4 ∧
        t = ended { s with mgmt := { s.mgmt with grant := bits a.value 0 4 } } .ok) ∧
      (bits a.value 0 4 = 0 → refused .grantSetWrite)) ∧
    (s.executes a .apertureBaseWrite →
      ∃ t, exec .apertureBaseWrite s = .next t ∧ t.mgmt.apertureBase = bits a.value 0 24 ∧
        t = ended { s with mgmt := { s.mgmt with apertureBase := bits a.value 0 24 } } .ok) ∧
    (s.executes a .faultClassWrite → ∀ k, a.reg = .faultClass k →
      (k.allows (FaultClass.ofCode (bits a.value 0 2)) = true →
        ∃ t, exec .faultClassWrite s = .next t ∧ t.classOf k = FaultClass.ofCode (bits a.value 0 2) ∧
          t = ended { s with mgmt := { s.mgmt with
            classes := s.mgmt.classes.set k.code (FaultClass.ofCode (bits a.value 0 2)) } } .ok) ∧
      (k.allows (FaultClass.ofCode (bits a.value 0 2)) = false → refused .faultClassWrite))) ∧
  (∀ (s : State) (a : Access), s.executes a .settingWrite →
    let ended (u : State) (st : Status) : State := (u.completeAccess a (a.statusAnswer st)).settle
    let denied : Prop := exec .settingWrite s = .next (ended s .denied)
    (a.reg = .drainDeadline → bits a.value 0 8 ≠ 0 → ∃ t, exec .settingWrite s = .next t ∧
      t.commit.drainDeadline = (bits a.value 0 8).toNat ∧
      t = ended { s with commit := { s.commit with drainDeadline := (bits a.value 0 8).toNat } } .ok) ∧
    (a.reg = .drainDeadline → bits a.value 0 8 = 0 → denied) ∧
    (a.reg = .tRntCode → (bits a.value 0 3).toNat ≤ 6 → ∃ t, exec .settingWrite s = .next t ∧
      t.notifier.tRntCode = (bits a.value 0 3).toNat ∧
      t = ended { s with notifier := { s.notifier with tRntCode := (bits a.value 0 3).toNat } } .ok) ∧
    (a.reg = .tRntCode → (bits a.value 0 3).toNat = 7 → denied) ∧
    (a.reg = .resendLimit → ∃ t, exec .settingWrite s = .next t ∧
      t.notifier.resendLimit = (bits a.value 0 3).toNat ∧
      t = ended { s with notifier := { s.notifier with resendLimit := (bits a.value 0 3).toNat } } .ok) ∧
    (a.reg ≠ .drainDeadline → a.reg ≠ .tRntCode → a.reg ≠ .resendLimit → denied)) ∧
  (∀ (s : State) (a : Access), s.executes a .stagingWrite →
    let ended (u : State) (st : Status) : Host.Outcome State Fault Refusal :=
      .next (u.completeAccess a (a.statusAnswer st)).settle
    let b := s.banks.staging
    (∀ n i, a.reg = .stagingWindow n i → i ≠ 3 → s.commit.engine = .idle → exec .stagingWrite s =
      ended { s with banks := { s.banks with staging := { b with
        windows := b.windows.set n ((b.windows[n]).withWord i a.value) } } } .ok) ∧
    (∀ n i, a.reg = .stagingGroup n i → s.commit.engine = .idle → exec .stagingWrite s =
      ended { s with banks := { s.banks with staging := { b with
        groups := b.groups.set n ((b.groups[n]).withWord i a.value) } } } .ok) ∧
    (∀ n i, a.reg = .stagingWindow n i → i ≠ 3 → s.commit.engine ≠ .idle →
      exec .stagingWrite s = ended s .busy) ∧
    (∀ n i, a.reg = .stagingGroup n i → s.commit.engine ≠ .idle → exec .stagingWrite s = ended s .busy) ∧
    (∀ n, a.reg = .stagingWindow n 3 → exec .stagingWrite s = ended s .denied))

/-- PORT_CONFIG_WRITE: word 1 of a port record takes limits in range (attempt limit 1 to 4, host limit 1 to 128), word 2
of a D-port record a limit of 1, 4, 16, 64 or 128, any timeout code, a threshold that names a severity and the
isolate-on-failing bit; anything else is refused DENIED whole (R41, R43). -/
def Obligations.PortConfigWritesAreTakenInRange : Prop :=
  ∀ (s : State) (a : Access), s.executes a .portConfigWrite →
    let ended (u : State) (st : Status) : State := (u.completeAccess a (a.statusAnswer st)).settle
    let denied : Prop := exec .portConfigWrite s = .next (ended s .denied)
    let n := (bits a.value 0 3).toNat
    let m := (bits a.value 8 8).toNat
    let l := (bits a.value 0 8).toNat
    (∀ h, a.reg = .portRecord (.host h) 1 →
      (1 ≤ n ∧ n ≤ 4 ∧ 1 ≤ m ∧ m ≤ 128 → ∃ t, exec .portConfigWrite s = .next t ∧
        t.hosts[h].link.attemptLimit = n ∧ t.hosts[h].outstandingLimit = m ∧
        t = ended (s.setHost h fun x => { x with link := { x.link with attemptLimit := n }, outstandingLimit := m })
          .ok) ∧
      (n = 0 ∨ 4 < n ∨ m = 0 ∨ 128 < m → denied)) ∧
    (∀ d, a.reg = .portRecord (.target d) 1 →
      (1 ≤ n ∧ n ≤ 4 → ∃ t, exec .portConfigWrite s = .next t ∧ t.targets[d].link.attemptLimit = n ∧
        t = ended (s.setTarget d fun x => { x with link := { x.link with attemptLimit := n } }) .ok) ∧
      (n = 0 ∨ 4 < n → denied)) ∧
    (∀ d, a.reg = .portRecord (.target d) 2 →
      (∀ sev, Severity.ofCode (bits a.value 12 2) = some sev → l ∈ [1, 4, 16, 64, 128] →
        ∃ t, exec .portConfigWrite s = .next t ∧ t.targets[d].outstandingLimit = l ∧
          t.targets[d].timeoutCode.val = (bits a.value 8 3).toNat ∧ t.targets[d].threshold = sev ∧
          t.targets[d].isolateOnFailing = a.value.getLsbD 16 ∧
          t = ended (s.setTarget d fun x => { x with
            outstandingLimit := l, timeoutCode := (bits a.value 8 3).toFin, threshold := sev,
            isolateOnFailing := a.value.getLsbD 16 }) .ok) ∧
      (bits a.value 12 2 = 0 ∨ l ∉ [1, 4, 16, 64, 128] → denied)) ∧
    (∀ p, a.reg = .portRecord p 0 ∨ a.reg = .portRecord p 3 → denied) ∧
    (∀ h, a.reg = .portRecord (.host h) 2 → denied)

/-- PORT_ENABLE of a DISABLED port and PORT_RETRAIN of a FAILED one take it to DOWN with count 0 and nothing else of it
changed; in every other state, and for an argument that names no port, they are refused DENIED (R24, R25, R199).
PORT_RESTORE takes an ISOLATED port other than the requester's own to UP with its queues kept: a host port presents its head
again and a send is judged if it is the supervisor; in every other state it is refused DENIED (R24, R28, R39, R186). -/
def Obligations.EnableRetrainAndRestoreReturnAPort : Prop :=
  (∀ (s : State) (a : Access) (c : Instr) (code : Byte) (l : LinkState),
    (c = .portEnable ∧ code = 0x10 ∧ l = .disabled) ∨ (c = .portRetrain ∧ code = 0x15 ∧ l = .failed) →
    s.executes a c →
    let ended (u : State) (o : CommandOutcome) (st : Status) : State :=
      ((u.setResult code o).completeAccess a (a.statusAnswer st)).settle
    (∀ p, portOfCode a.argument.toNat = some p → (s.link p).state = l →
      ∃ t, exec c s = .next t ∧ (t.link p).state = .down ∧ (t.link p).attempts = 0 ∧ SameSettings s t ∧
        t = ended ((s.setLink p fun u => { u with state := .down, attempts := 0 }).wakeTarget p) .done .ok) ∧
    (∀ p, portOfCode a.argument.toNat = some p → (s.link p).state ≠ l →
      exec c s = .next (ended s .denied .denied)) ∧
    (10 ≤ a.argument.toNat → exec c s = .next (ended s .denied .denied))) ∧
  (∀ (s : State) (a : Access), s.executes a .portRestore →
    let ended (u : State) (o : CommandOutcome) (st : Status) : Host.Outcome State Fault Refusal :=
      .next ((u.setResult 0x14 o).completeAccess a (a.statusAnswer st)).settle
    (∀ d, portOfCode a.argument.toNat = some (.target d) → s.targets[d].link.state = .isolated → exec .portRestore s =
      ended (s.setTarget d fun x => { x with link := { x.link with state := .up } }).wake .done .ok) ∧
    (∀ h, portOfCode a.argument.toNat = some (.host h) → h ≠ a.port → s.hosts[h].link.state = .isolated →
      exec .portRestore s =
      ended (((s.setHost h fun x => { x with link := { x.link with state := .up }, isolatedWaits := false }).setHead h
        (if s.hosts[h].link.ingress = [] then .noHead else .presented)).sendNotification) .done .ok) ∧
    (∀ p, portOfCode a.argument.toNat = some p → (s.link p).state ≠ .isolated →
      exec .portRestore s = ended s .denied .denied) ∧
    (10 ≤ a.argument.toNat → exec .portRestore s = ended s .denied .denied))

/-- PORT_RESET, PORT_DISABLE and PORT_ISOLATE naming a port other than the requester's own are taken within the write:
PORT_RESET in any state but DISABLED, to DOWN; PORT_DISABLE unless withheld, to DISABLED; PORT_ISOLATE in UP unless
withheld, and in ISOLATED with no effect; a port left by them in DOWN or DISABLED has count 0, t_TRN stopped and empty
queues (R24, R26 to R28, R38). -/
def Obligations.PortCommandsOnAnotherPort : Prop :=
  ∀ (s : State) (a : Access) (p : Port), portOfCode a.argument.toNat = some p → p ≠ .host a.port →
    let ended (u : State) (code : Byte) (o : CommandOutcome) (st : Status) : Host.Outcome State Fault Refusal :=
      .next ((u.setResult code o).completeAccess a (a.statusAnswer st)).settle
    let closed (u : State) (l : LinkState) : Prop := (u.link p).state = l ∧ (u.link p).attempts = 0 ∧
      (u.link p).tTrn = none ∧ (u.link p).ingress = [] ∧ (u.link p).egress = []
    (s.executes a .portReset →
      ((s.link p).state ≠ .disabled → ∃ u, u = s.resetPort p ∧ closed u .down ∧ SameSettings s u ∧
        exec .portReset s = ended u 0x12 .done .ok) ∧
      ((s.link p).state = .disabled → exec .portReset s = ended s 0x12 .denied .denied)) ∧
    (s.executes a .portDisable →
      (s.withholds p = false → ∃ u, u = s.takeDown p .disabled ∧ closed u .disabled ∧ SameSettings s u ∧
        exec .portDisable s = ended u 0x11 .done .ok) ∧
      (s.withholds p = true → exec .portDisable s = ended s 0x11 .denied .denied)) ∧
    (s.executes a .portIsolate →
      ((s.link p).state = .up → s.withholds p = false → ∃ u, u = s.leavesUp p .isolated ∧ (u.link p).state = .isolated ∧
        (u.link p).ingress = [] ∧ (u.link p).egress = [] ∧ SameSettings s u ∧
        exec .portIsolate s = ended u 0x13 .done .ok) ∧
      ((s.link p).state = .isolated → exec .portIsolate s = ended s 0x13 .done .ok) ∧
      ((s.link p).state = .up ∧ s.withholds p = true ∨ (s.link p).state ≠ .up ∧ (s.link p).state ≠ .isolated →
        exec .portIsolate s = ended s 0x13 .denied .denied))

/-- PORT_RESET, PORT_DISABLE and PORT_ISOLATE on the requester's own port, taken or refused DENIED, and PORT_RESTORE on it,
taken while it is ISOLATED, set the result and are ordered with their own answer: posted, or where the port carries no
packets, the access completes at once; an answer that R31 gives room enters the queue first; and while the answer waits the
unit stays BUSY, whatever outcome it carries. The action of one that was taken is then due, and none of one that was refused
(R24, R200). SELF_PORT_COMMAND_ACTION takes the action, with no judging of R38 anew: PORT_RESET leaves the port DOWN,
PORT_DISABLE leaves it DISABLED, PORT_ISOLATE takes it from UP to ISOLATED, PORT_RESTORE takes it from ISOLATED to UP (R200).
That the result is set at the judging, and that PORT_RESTORE holds the unit too, is the model's reading (log entry 16). -/
def Obligations.OwnPortActionFollowsItsAnswer : Prop :=
  (∀ (s : State) (a : Access) (c : Instr) (code : Byte) (o : CommandOutcome) (x : Option SelfAction), s.executes a c →
    portOfCode a.argument.toNat = some (.host a.port) →
    let up : Prop := s.hosts[a.port].link.state = .up
    let isolated : Prop := s.hosts[a.port].link.state = .isolated
    let withheld : Prop := s.withholds (.host a.port) = true
    (c = .portReset ∧ code = 0x12 ∧
        (if s.hosts[a.port].link.state = .disabled then o = .denied ∧ x = none
          else o = .done ∧ x = some (.portReset a.port))) ∨
      (c = .portDisable ∧ code = 0x11 ∧
        (if withheld then o = .denied ∧ x = none else o = .done ∧ x = some (.portDisable a.port))) ∨
      (c = .portIsolate ∧ code = 0x13 ∧
        (if isolated ∨ (up ∧ ¬ withheld) then o = .done ∧ x = some (.portIsolate a.port)
          else o = .denied ∧ x = none)) ∨
      (c = .portRestore ∧ code = 0x14 ∧ isolated ∧ o = .done ∧ x = some (.portRestore a.port)) →
    let answer : Packet := { kindCode := 5, tag := a.packet.tag, status := if o = .denied then 2 else 0, final := true }
    let judged : State := { s with mgmt := { s.mgmt with result := { code := code, outcome := o } } }
    let held : State := { judged with mgmt := { judged.mgmt with
      unit := .answering a x, answers := s.mgmt.answers.set a.port (some answer) } }
    let completed (u : State) : State := ({ u with mgmt := { u.mgmt with action := x } }).freeUnit a.port
    (a.packet.kind = some .wpq ∨ ¬ (up ∨ isolated) → exec c s = .next (completed judged).settle) ∧
    (a.packet.kind ≠ some .wpq → up ∨ isolated → s.givesRoom a.port .management = true → exec c s =
      .next (completed (((held.placeHost a.port .management answer).clearAnswer a.port).wake)).settle) ∧
    (a.packet.kind ≠ some .wpq → up ∨ isolated → s.givesRoom a.port .management = false → exec c s =
      .next held.settle)) ∧
  (∀ (s : State) (h : HPort),
    (s.mgmt.action = some (.portReset h) → s.hosts[h].link.state ≠ .disabled →
      ∃ t, exec .selfPortCommandAction s = .next t ∧ t.hosts[h].link.state = .down ∧ t.hosts[h].link.ingress = [] ∧
        t.hosts[h].link.egress = [] ∧ t.hosts[h].link.attempts = 0 ∧ t.hosts[h].classPtr = .localAnswer ∧
        t.tracker.pointers[h] = 0 ∧ SameSettings s t) ∧
    (s.mgmt.action = some (.portDisable h) →
      ∃ t, exec .selfPortCommandAction s = .next t ∧ t.hosts[h].link.state = .disabled ∧
        t.hosts[h].link.ingress = [] ∧ t.hosts[h].link.egress = [] ∧ t.hosts[h].link.attempts = 0 ∧
        SameSettings s t) ∧
    (s.mgmt.action = some (.portIsolate h) → s.hosts[h].link.state = .up →
      ∃ t, exec .selfPortCommandAction s = .next t ∧ t.hosts[h].link.state = .isolated ∧ SameSettings s t) ∧
    (s.mgmt.action = some (.portRestore h) → s.hosts[h].link.state = .isolated →
      exec .selfPortCommandAction s = .next (State.settle (State.wake (State.sendNotification
        (State.setHead { s with
          hosts := s.hosts.set h { s.hosts[h] with
            link := { s.hosts[h].link with state := .up }, isolatedWaits := false }
          mgmt := { s.mgmt with action := none } } h
            (if s.hosts[h].link.ingress = [] then .noHead else .presented)))))))

/-- BRIDGE_RESET is ordered with its own answer: posted, the access completes at once with the warm reset due; a WAQ whose
answer R31 gives room lets it enter the queue first; and while the answer waits the unit stays BUSY. MGMT_ANSWER_ENTERS lets
a waiting answer in, and completes the access of a command on the own port, with the action of one that was taken due and
none of one that was refused; BRIDGE_RESET's result shows DONE from its completion on (R117, R200, R201). -/
def Obligations.AnswersEnterBeforeTheirActions : Prop :=
  (∀ (s : State) (a : Access),
    let done (u : State) : State := ({ u with mgmt := { u.mgmt with
      action := some .warmReset, result := { code := 0x3F, outcome := .done } } }).freeUnit a.port
    (s.executes a .bridgeReset →
      (a.packet.kind = some .wpq → exec .bridgeReset s = .next (done s).settle) ∧
      (a.packet.kind ≠ some .wpq → s.hosts[a.port].link.state = .up →
        let ok : Packet := { kindCode := 5, tag := a.packet.tag, status := 0, final := true }
        let held : State := { s with mgmt := { s.mgmt with
          unit := .answering a (some .warmReset), answers := s.mgmt.answers.set a.port (some ok) } }
        (s.givesRoom a.port .management = true → exec .bridgeReset s =
          .next (done (((held.placeHost a.port .management ok).clearAnswer a.port).wake)).settle) ∧
        (s.givesRoom a.port .management = false → exec .bridgeReset s = .next held.settle))) ∧
    (∀ p : Packet, s.mgmt.unit = .answering a (some .warmReset) → s.mgmt.answers[a.port] = some p →
      s.givesRoom a.port .management = true → exec (.mgmtAnswerEnters a.port) s =
        .next (done (((s.placeHost a.port .management p).clearAnswer a.port).wake)).settle) ∧
    (∀ (p : Packet) (x : Option SelfAction), s.mgmt.unit = .answering a x → x ≠ some .warmReset →
      s.mgmt.answers[a.port] = some p → s.givesRoom a.port .management = true →
      exec (.mgmtAnswerEnters a.port) s = .next (State.freeUnit { s with
        hosts := s.hosts.set a.port { s.hosts[a.port] with
          link := { s.hosts[a.port].link with egress := s.hosts[a.port].link.egress ++ [p] }, classPtr := .tracker }
        mgmt := { s.mgmt with answers := s.mgmt.answers.set a.port none, action := x }
        admission := { s.admission with passDue := true } } a.port).settle)) ∧
  (∀ (h : HPort) (s : State) (p : Packet), s.mgmt.answers[h] = some p → s.givesRoom h .management = true →
    (∀ a x, s.mgmt.unit ≠ .answering a x) →
    exec (.mgmtAnswerEnters h) s = .next (State.settle { s with
      hosts := s.hosts.set h { s.hosts[h] with
        link := { s.hosts[h].link with egress := s.hosts[h].link.egress ++ [p] }, classPtr := .tracker }
      mgmt := { s.mgmt with answers := s.mgmt.answers.set h none }
      admission := { s.admission with passDue := true } }))

/-- FAULT_POP removes the head record, clears overflow when it leaves the queue empty, and shows DONE, or EMPTY on an empty
queue; SNAPSHOT_RELEASE empties a HELD snapshot and clears its flag, DONE, or EMPTY; a code that names no command is refused
DENIED and shown; an argument is ignored and nothing else of the recorder changes (R171, R173, R199). -/
def Obligations.RecorderCommandsPopAndRelease : Prop :=
  ∀ (s : State) (a : Access),
    let ended (u : State) (code : Byte) (o : CommandOutcome) (st : Status) : Host.Outcome State Fault Refusal :=
      .next ((u.setResult code o).completeAccess a (a.statusAnswer st)).settle
    (s.executes a .faultPop →
      (∀ f rest, s.recorder.queue = f :: rest → exec .faultPop s = ended { s with recorder := { s.recorder with
        queue := rest, overflow := if rest = [] then false else s.recorder.overflow } } 0x20 .done .ok) ∧
      (s.recorder.queue = [] → exec .faultPop s = ended s 0x20 .empty .ok)) ∧
    (s.executes a .snapshotRelease →
      (s.recorder.snapshot.held = true → exec .snapshotRelease s = ended { s with recorder := { s.recorder with
        snapshot := { s.recorder.snapshot with held := false, multiple := false } } } 0x21 .done .ok) ∧
      (s.recorder.snapshot.held = false → exec .snapshotRelease s = ended s 0x21 .empty .ok)) ∧
    (s.executes a .unknownCommand → exec .unknownCommand s = ended s a.commandCode .denied .denied)

/-! ## The fault recorder (chapter 9) -/

/-- One report: IGNORE leaves everything as it was; any other class consumes one sequence number and appends the record, or
drops it and sets overflow when 16 stand; NOTIFY and ISOLATE also fill an EMPTY snapshot or mark a HELD one, and hand over a
notice: a FAULT item joins the tail of a pending list with a place and a send is judged, and a full list drops it and sets
notices-lost (R166 to R174, R183). ISOLATE judges an isolation request: of a port in UP it is withheld where the port is the
only one that holds grant and is UP, with that as the record's detail, and else carried out: the port is ISOLATED at the report
and its leave-UP effects follow (R37, R38, R161, R175). That they follow within the same step is the model's choice (log entry
13). -/
def Obligations.ReportIsHandledByItsClass : Prop :=
  ∀ (s : State) (r : Report),
    let t := s.takeReport r
    let class' := s.classOf r.kind
    let alone : Bool := match r.port with
      | .host h => s.granted h && (List.finRange 4).all fun g => g == h || !(s.granted g && s.hostUp g)
      | .target _ => false
    let withheld : Bool := class' == .isolate && (s.link r.port).state == .up && alone
    let carriedOut : Bool := class' == .isolate && (s.link r.port).state == .up && !alone
    let v : State := s.setLink r.port fun u => { u with state := if carriedOut then .isolated else u.state }
    let f : FaultRecord :=
      { sequence := s.recorder.sequence, kind := r.kind, port := r.port, entry := r.entry, hostTag := r.hostTag,
        window := r.window, address := r.address, generation := s.banks.generation,
        detail := if withheld then .isolationWithheld else r.detail }
    let recorded : State := { v with recorder := t.recorder }
    (class' = .ignore → t = s) ∧
    (class' ≠ .ignore → t.recorder.sequence = s.recorder.sequence + 1 ∧
      (s.recorder.queue.length < 16 → t.recorder.queue = s.recorder.queue ++ [f] ∧
        t.recorder.overflow = s.recorder.overflow) ∧
      (16 ≤ s.recorder.queue.length → t.recorder.queue = s.recorder.queue ∧ t.recorder.overflow = true)) ∧
    (class' = .record → t.recorder.snapshot = s.recorder.snapshot ∧ t = recorded) ∧
    (class' = .notify ∨ class' = .isolate →
      (s.recorder.snapshot.held = false → t.recorder.snapshot =
        { held := true, multiple := s.recorder.snapshot.multiple, record := some f, capture := r.capture }) ∧
      (s.recorder.snapshot.held = true → t.recorder.snapshot = { s.recorder.snapshot with multiple := true }) ∧
      (s.notifier.items.length < 8 → t = ({ recorded with notifier := { s.notifier with items := s.notifier.items ++
        [{ kind := .fault r.kind f.sequence, source := r.port, repeatCount := 1, sent := false }] } } :
          State).sendNotification) ∧
      (8 ≤ s.notifier.items.length → t = { recorded with notifier := { s.notifier with noticesLost := true } })) ∧
    (carriedOut = false → s.report [r] = t) ∧
    (carriedOut = true → s.report [r] = t.leavesUp r.port .isolated ∧ ((s.report [r]).link r.port).state = .isolated ∧
      ((s.report [r]).link r.port).ingress = [] ∧ ((s.report [r]).link r.port).egress = [])

/-- Records are only appended: no command but FAULT_POP and a cold reset takes a record out of the fault queue, and a HELD
snapshot keeps its record and capture until SNAPSHOT_RELEASE or a cold reset (R169, R170, R172, R178). -/
def Obligations.FaultRecordsAreOnlyAppended : Prop :=
  ∀ (c : Instr) (s t : State), exec c s = .next t → (∀ aps mgs, c ≠ .coldReset aps mgs) →
    (c ≠ .faultPop → s.recorder.queue <+: t.recorder.queue) ∧
    (c ≠ .snapshotRelease → s.recorder.snapshot.held = true →
      t.recorder.snapshot.held = true ∧ t.recorder.snapshot.record = s.recorder.snapshot.record ∧
        t.recorder.snapshot.capture = s.recorder.snapshot.capture)

/-! ## The notification unit (chapter 10) -/

/-- ALERT_INTAKE: an alert below its port's threshold is discarded; otherwise it coalesces into an unsent ALERT item of its
port, device and code, else joins the tail of a list with a place, else is dropped with ALERT_OVERFLOW; a FAILING alert on
a port with isolate-on-failing then makes an isolation request (R179 to R182). -/
def Obligations.AlertIsDiscardedCoalescedOrAppended : Prop :=
  ∀ (d : DPort) (s : State) (p : Packet) (rest : List Packet) (sev : Severity), s.targets[d].link.state = .up →
    s.targets[d].link.ingress = p :: rest → p.kind = some .alm → Severity.ofCode p.severity = some sev →
    let u := s.setTarget d fun x => { x with link := { x.link with ingress := rest } }
    let fate (t : State) : Host.Outcome State Fault Refusal := .next (State.settle
      (if sev = .failing ∧ s.targets[d].isolateOnFailing = true then t.requestIsolation (.target d) else t))
    let low := sev.code.toNat < s.targets[d].threshold.code.toNat
    let same (i : PendingItem) : Prop := i.sent = false ∧ i.source = .target d ∧
      ∃ sv arg, i.kind = .alert p.device sv (BitVec.ofNat 16 (leNat (p.payload.take 2))) arg
    (low → exec (.alertIntake d) s = fate u) ∧
    (¬ low → ∀ l i r, s.notifier.items = l ++ i :: r → (∀ j ∈ l, ¬ same j) → ∀ sv arg,
      i.kind = .alert p.device sv (BitVec.ofNat 16 (leNat (p.payload.take 2))) arg → i.sent = false →
      i.source = .target d →
      exec (.alertIntake d) s = fate { u with notifier := { u.notifier with items := l ++
        { i with
          kind := .alert p.device (if sv.code.toNat < sev.code.toNat then sev else sv)
            (BitVec.ofNat 16 (leNat (p.payload.take 2))) arg
          repeatCount := if i.repeatCount = 255 then 255 else i.repeatCount + 1 } :: r } }) ∧
    (¬ low → (∀ i ∈ s.notifier.items, ¬ same i) → s.notifier.items.length < 8 →
      exec (.alertIntake d) s = fate ({ u with notifier := { u.notifier with items := u.notifier.items ++
        [{ kind := .alert p.device sev (BitVec.ofNat 16 (leNat (p.payload.take 2)))
             (BitVec.ofNat 32 (leNat ((p.payload.drop 2).take 4))),
           source := .target d, repeatCount := 1, sent := false }] } } : State).sendNotification) ∧
    (¬ low → (∀ i ∈ s.notifier.items, ¬ same i) → 8 ≤ s.notifier.items.length →
      exec (.alertIntake d) s = fate (u.report [{ kind := .alertOverflow, port := .target d }]))

/-- NOTIFICATION_SEND, with the channel IDLE, the list not empty and room given at an UP supervisor: the head goes out
marked sent as a 16-byte posted write with tag zero to the notification address, under the next sequence; notices-lost is
cleared, t_RNT starts, the re-send count is 0 and the channel awaits the acknowledgement (R185, R186; the moment of t_RNT
is the model's choice, log entry 4). -/
def Obligations.NotificationSendMarksTheHead : Prop :=
  ∀ (s : State) (i : PendingItem) (rest : List PendingItem), s.notifier.channel = .idle →
    s.notifier.items = i :: rest → s.hostUp s.mgmt.supervisor = true →
    s.givesRoom s.mgmt.supervisor .notification = true → s.admission.passDue = false →
    ∃ t p, exec .notificationSend s = .next t ∧
      p = notificationPacket s.notifier.address s.notifier.sequence { i with sent := true } s.notifier.noticesLost ∧
      p.kindCode = 2 ∧ p.tag = 0 ∧ p.length = 16 ∧ p.payload.length = 16 ∧ p.address = s.notifier.address ∧
      p.payload.take 2 = leBytes 2 s.notifier.sequence.toNat ∧
      t.hosts[s.mgmt.supervisor].link.egress = s.hosts[s.mgmt.supervisor].link.egress ++ [p] ∧
      t.notifier = { s.notifier with
        items := { i with sent := true } :: rest, channel := .awaitingAck, sequence := s.notifier.sequence + 1,
        outstanding := some { sequence := s.notifier.sequence, packet := p }, resends := 0,
        tRnt := some (s.now + tRntOf s.notifier.tRntCode), noticesLost := false } ∧
      t.targets = s.targets ∧ t.tracker = s.tracker ∧ t.recorder = s.recorder ∧ t.mgmt = s.mgmt ∧ t.banks = s.banks

/-- T_RNT_EXPIRY below the re-send limit counts one re-send, restarts t_RNT and presents a copy of the outstanding
notification to an UP supervisor; at or past the limit the channel stalls, t_RNT stops and a waiting copy is withdrawn.
NOTIFICATION_COPY_PLACED places the waiting copy unchanged when room is given (R188; the moments are the model's choice, log
entry 4). -/
def Obligations.UnacknowledgedNotificationIsResentOrStalls : Prop :=
  ∀ (s : State),
    (∀ m o, s.notifier.channel = .awaitingAck → s.notifier.tRnt = some m → s.notifier.outstanding = some o →
      let now := max s.now m
      (s.notifier.resends < s.notifier.resendLimit → exec .tRntExpiry s = .next (State.settle
        (if s.hostUp s.mgmt.supervisor = true then
          ({ s with
            now := now
            notifier := { s.notifier with
              resends := s.notifier.resends + 1, tRnt := some (now + tRntOf s.notifier.tRntCode),
              copy := some o.packet } } : State).placeCopy
        else { s with
          now := now
          notifier := { s.notifier with
            resends := s.notifier.resends + 1, tRnt := some (now + tRntOf s.notifier.tRntCode), copy := none } }))) ∧
      (s.notifier.resendLimit ≤ s.notifier.resends → exec .tRntExpiry s = .next (State.settle { s with
        now := now
        notifier := { s.notifier with channel := .stalled, tRnt := none, copy := none } }))) ∧
    (∀ p, s.notifier.copy = some p → s.givesRoom s.mgmt.supervisor .notification = true →
      s.admission.passDue = false → exec .notificationCopyPlaced s = .next { s with
        hosts := s.hosts.set s.mgmt.supervisor { s.hosts[s.mgmt.supervisor] with
          link := { s.hosts[s.mgmt.supervisor].link with
            egress := s.hosts[s.mgmt.supervisor].link.egress ++ [p] }
          classPtr := .localAnswer }
        notifier := { s.notifier with copy := none } })

/-- ACKNOWLEDGE with the outstanding sequence removes the head, stops t_RNT, withdraws a waiting copy and leaves the
channel IDLE, judging the next send at once; any other sequence, or none outstanding, is refused DENIED (R187). CHANNEL_REARM
in STALLED restarts the notification with re-send count 0, and is refused DENIED elsewhere (R189). That a send or copy judged at the
supervisor's own write goes before the write's answer is the model's choice (log entry 23). -/
def Obligations.AcknowledgementEndsTheNotification : Prop :=
  ∀ (s : State) (a : Access),
    let ended (u : State) (st : Status) : Host.Outcome State Fault Refusal :=
      .next (u.completeAccess a (a.statusAnswer st)).settle
    (s.executes a .acknowledge →
      (∀ o, s.notifier.channel = .awaitingAck ∨ s.notifier.channel = .stalled → s.notifier.outstanding = some o →
        (o.sequence = bits a.value 0 16 → exec .acknowledge s = ended ({ s with notifier := { s.notifier with
          items := s.notifier.items.tail, channel := .idle, tRnt := none, copy := none,
          outstanding := none } } : State).sendNotification .ok) ∧
        (o.sequence ≠ bits a.value 0 16 → exec .acknowledge s = ended s .denied)) ∧
      (s.notifier.channel = .disabled ∨ s.notifier.channel = .idle → exec .acknowledge s = ended s .denied)) ∧
    (s.executes a .channelRearm →
      (∀ o, s.notifier.channel = .stalled → s.notifier.outstanding = some o → s.hostUp s.mgmt.supervisor = true →
        exec .channelRearm s = ended ((({ s with notifier := { s.notifier with
          channel := .awaitingAck, resends := 0, tRnt := some (s.now + tRntOf s.notifier.tRntCode),
          copy := some o.packet } } : State).placeCopy).setResult 0x30 .done) .ok) ∧
      (s.notifier.channel ≠ .stalled → exec .channelRearm s = ended (s.setResult 0x30 .denied) .denied))

/-- CHANNEL_ENABLE_WRITE with the enable set needs a 16-byte aligned address, stores it, and from DISABLED enters IDLE
and judges a send; with the enable clear it stores an aligned address and disables the channel, abandoning the outstanding
sequence and keeping the list (R190). SUPERVISOR_PORT_WRITE names the new supervisor, withdraws a copy waiting at the old one
and judges a waiting send anew (R191, R197); named again, the port it already holds changes nothing (the model's reading:
log entry 19). That a send judged at the supervisor's own write goes before the write's answer is the model's choice (log
entry 23). -/
def Obligations.ChannelWritesEnableAndRedirect : Prop :=
  ∀ (s : State) (a : Access),
    let ended (u : State) (st : Status) : Host.Outcome State Fault Refusal :=
      .next (u.completeAccess a (a.statusAnswer st)).settle
    let address : Addr := bits a.value 0 44
    let aligned := address.toNat % 16 = 0
    (s.executes a .channelEnableWrite →
      (a.value.getLsbD 63 = true → ¬ aligned → exec .channelEnableWrite s = ended s .denied) ∧
      (a.value.getLsbD 63 = true → aligned → s.notifier.channel = .disabled → exec .channelEnableWrite s =
        ended ({ s with notifier := { s.notifier with address := address, channel := .idle } } : State).sendNotification
          .ok) ∧
      (a.value.getLsbD 63 = true → aligned → s.notifier.channel ≠ .disabled → exec .channelEnableWrite s =
        ended { s with notifier := { s.notifier with address := address } } .ok) ∧
      (a.value.getLsbD 63 = false → exec .channelEnableWrite s =
        ended { s with notifier := { s.notifier with
          address := if address.toNat % 16 = 0 then address else s.notifier.address, channel := .disabled,
          tRnt := none, copy := none, outstanding := none } } .ok)) ∧
    (s.executes a .supervisorPortWrite → ∀ h : HPort, h.val = (bits a.value 0 2).toNat →
      (h ≠ s.mgmt.supervisor → ∃ t, exec .supervisorPortWrite s = .next t ∧ t.mgmt.supervisor = h ∧
        t = (State.completeAccess (State.sendNotification { s with
          mgmt := { s.mgmt with supervisor := h }, notifier := { s.notifier with copy := none } }) a
            (a.statusAnswer .ok)).settle) ∧
      (h = s.mgmt.supervisor → exec .supervisorPortWrite s = ended s .ok))

/-- Every step keeps the channel's state fitting its timer, its waiting copy, the outstanding notification and the sent
flags of the list (R184, R185, R188, R190). -/
def Obligations.StepKeepsTheChannelFitting : Prop :=
  ∀ s t : State, ChannelFits s → step s = .next t → ChannelFits t

/-! ## The invariants hold at reset -/

/-- The state after reset meets every invariant that a step keeps. -/
def Obligations.ResetMeetsTheInvariants : Prop :=
  QueuesWithinCapacity State.reset ∧ QuietPortsEmpty State.reset ∧ TimersFitStates State.reset ∧
  HeadsFit State.reset ∧ UnitFits State.reset ∧ EntriesAimAtUpTargets State.reset ∧ HostTagsUnique State.reset ∧
  EntriesFit State.reset ∧ DrainHasWork State.reset ∧ AnswerListsBounded State.reset ∧ SettingsLegal State.reset ∧
  BanksLegal State.reset ∧ ChannelFits State.reset
end

