-- ==== Sys2Proof/Laws/State.lean ====
section
/-! SUPPORT. One lemma for each update of one part of the state and each field it leaves alone, and the value it gives
the field it changes; later proofs need not unfold a record update. -/

namespace Sys2Proof.Machine

variable (s : State)


/-! ### `State.setHost` -/

@[simp] theorem State.setHost_targets (h : HPort) (f : HostPort → HostPort) : (s.setHost h f).targets = s.targets := rfl
@[simp] theorem State.setHost_admission (h : HPort) (f : HostPort → HostPort) : (s.setHost h f).admission = s.admission := rfl
@[simp] theorem State.setHost_tracker (h : HPort) (f : HostPort → HostPort) : (s.setHost h f).tracker = s.tracker := rfl
@[simp] theorem State.setHost_banks (h : HPort) (f : HostPort → HostPort) : (s.setHost h f).banks = s.banks := rfl
@[simp] theorem State.setHost_commit (h : HPort) (f : HostPort → HostPort) : (s.setHost h f).commit = s.commit := rfl
@[simp] theorem State.setHost_mgmt (h : HPort) (f : HostPort → HostPort) : (s.setHost h f).mgmt = s.mgmt := rfl
@[simp] theorem State.setHost_recorder (h : HPort) (f : HostPort → HostPort) : (s.setHost h f).recorder = s.recorder := rfl
@[simp] theorem State.setHost_notifier (h : HPort) (f : HostPort → HostPort) : (s.setHost h f).notifier = s.notifier := rfl
@[simp] theorem State.setHost_now (h : HPort) (f : HostPort → HostPort) : (s.setHost h f).now = s.now := rfl
@[simp] theorem State.setHost_pending (h : HPort) (f : HostPort → HostPort) : (s.setHost h f).pending = s.pending := rfl

/-! ### `State.setTarget` -/

@[simp] theorem State.setTarget_hosts (d : DPort) (f : TargetPort → TargetPort) : (s.setTarget d f).hosts = s.hosts := rfl
@[simp] theorem State.setTarget_admission (d : DPort) (f : TargetPort → TargetPort) : (s.setTarget d f).admission = s.admission := rfl
@[simp] theorem State.setTarget_tracker (d : DPort) (f : TargetPort → TargetPort) : (s.setTarget d f).tracker = s.tracker := rfl
@[simp] theorem State.setTarget_banks (d : DPort) (f : TargetPort → TargetPort) : (s.setTarget d f).banks = s.banks := rfl
@[simp] theorem State.setTarget_commit (d : DPort) (f : TargetPort → TargetPort) : (s.setTarget d f).commit = s.commit := rfl
@[simp] theorem State.setTarget_mgmt (d : DPort) (f : TargetPort → TargetPort) : (s.setTarget d f).mgmt = s.mgmt := rfl
@[simp] theorem State.setTarget_recorder (d : DPort) (f : TargetPort → TargetPort) : (s.setTarget d f).recorder = s.recorder := rfl
@[simp] theorem State.setTarget_notifier (d : DPort) (f : TargetPort → TargetPort) : (s.setTarget d f).notifier = s.notifier := rfl
@[simp] theorem State.setTarget_now (d : DPort) (f : TargetPort → TargetPort) : (s.setTarget d f).now = s.now := rfl
@[simp] theorem State.setTarget_pending (d : DPort) (f : TargetPort → TargetPort) : (s.setTarget d f).pending = s.pending := rfl

/-! ### `State.setLink` -/

@[simp] theorem State.setLink_admission (p : Port) (f : PortUnit → PortUnit) : (s.setLink p f).admission = s.admission := by cases p <;> rfl
@[simp] theorem State.setLink_tracker (p : Port) (f : PortUnit → PortUnit) : (s.setLink p f).tracker = s.tracker := by cases p <;> rfl
@[simp] theorem State.setLink_banks (p : Port) (f : PortUnit → PortUnit) : (s.setLink p f).banks = s.banks := by cases p <;> rfl
@[simp] theorem State.setLink_commit (p : Port) (f : PortUnit → PortUnit) : (s.setLink p f).commit = s.commit := by cases p <;> rfl
@[simp] theorem State.setLink_mgmt (p : Port) (f : PortUnit → PortUnit) : (s.setLink p f).mgmt = s.mgmt := by cases p <;> rfl
@[simp] theorem State.setLink_recorder (p : Port) (f : PortUnit → PortUnit) : (s.setLink p f).recorder = s.recorder := by cases p <;> rfl
@[simp] theorem State.setLink_notifier (p : Port) (f : PortUnit → PortUnit) : (s.setLink p f).notifier = s.notifier := by cases p <;> rfl
@[simp] theorem State.setLink_now (p : Port) (f : PortUnit → PortUnit) : (s.setLink p f).now = s.now := by cases p <;> rfl
@[simp] theorem State.setLink_pending (p : Port) (f : PortUnit → PortUnit) : (s.setLink p f).pending = s.pending := by cases p <;> rfl

/-! ### `State.setEntry` -/

@[simp] theorem State.setEntry_hosts (e : EntryIx) (f : Entry → Entry) : (s.setEntry e f).hosts = s.hosts := rfl
@[simp] theorem State.setEntry_targets (e : EntryIx) (f : Entry → Entry) : (s.setEntry e f).targets = s.targets := rfl
@[simp] theorem State.setEntry_admission (e : EntryIx) (f : Entry → Entry) : (s.setEntry e f).admission = s.admission := rfl
@[simp] theorem State.setEntry_tracker_answers (e : EntryIx) (f : Entry → Entry) : (s.setEntry e f).tracker.answers = s.tracker.answers := rfl
@[simp] theorem State.setEntry_tracker_pointers (e : EntryIx) (f : Entry → Entry) : (s.setEntry e f).tracker.pointers = s.tracker.pointers := rfl
@[simp] theorem State.setEntry_tracker_waiting (e : EntryIx) (f : Entry → Entry) : (s.setEntry e f).tracker.waiting = s.tracker.waiting := rfl
@[simp] theorem State.setEntry_tracker_nextOrder (e : EntryIx) (f : Entry → Entry) : (s.setEntry e f).tracker.nextOrder = s.tracker.nextOrder := rfl
@[simp] theorem State.setEntry_banks (e : EntryIx) (f : Entry → Entry) : (s.setEntry e f).banks = s.banks := rfl
@[simp] theorem State.setEntry_commit (e : EntryIx) (f : Entry → Entry) : (s.setEntry e f).commit = s.commit := rfl
@[simp] theorem State.setEntry_mgmt (e : EntryIx) (f : Entry → Entry) : (s.setEntry e f).mgmt = s.mgmt := rfl
@[simp] theorem State.setEntry_recorder (e : EntryIx) (f : Entry → Entry) : (s.setEntry e f).recorder = s.recorder := rfl
@[simp] theorem State.setEntry_notifier (e : EntryIx) (f : Entry → Entry) : (s.setEntry e f).notifier = s.notifier := rfl
@[simp] theorem State.setEntry_now (e : EntryIx) (f : Entry → Entry) : (s.setEntry e f).now = s.now := rfl
@[simp] theorem State.setEntry_pending (e : EntryIx) (f : Entry → Entry) : (s.setEntry e f).pending = s.pending := rfl

/-! ### `State.setHead` -/

@[simp] theorem State.setHead_hosts (h : HPort) (c : HeadCondition) : (s.setHead h c).hosts = s.hosts := rfl
@[simp] theorem State.setHead_targets (h : HPort) (c : HeadCondition) : (s.setHead h c).targets = s.targets := rfl
@[simp] theorem State.setHead_admission_pointer (h : HPort) (c : HeadCondition) : (s.setHead h c).admission.pointer = s.admission.pointer := rfl
@[simp] theorem State.setHead_admission_mgmtPointer (h : HPort) (c : HeadCondition) : (s.setHead h c).admission.mgmtPointer = s.admission.mgmtPointer := rfl
@[simp] theorem State.setHead_admission_passDue (h : HPort) (c : HeadCondition) : (s.setHead h c).admission.passDue = s.admission.passDue := rfl
@[simp] theorem State.setHead_tracker (h : HPort) (c : HeadCondition) : (s.setHead h c).tracker = s.tracker := rfl
@[simp] theorem State.setHead_banks (h : HPort) (c : HeadCondition) : (s.setHead h c).banks = s.banks := rfl
@[simp] theorem State.setHead_commit (h : HPort) (c : HeadCondition) : (s.setHead h c).commit = s.commit := rfl
@[simp] theorem State.setHead_mgmt (h : HPort) (c : HeadCondition) : (s.setHead h c).mgmt = s.mgmt := rfl
@[simp] theorem State.setHead_recorder (h : HPort) (c : HeadCondition) : (s.setHead h c).recorder = s.recorder := rfl
@[simp] theorem State.setHead_notifier (h : HPort) (c : HeadCondition) : (s.setHead h c).notifier = s.notifier := rfl
@[simp] theorem State.setHead_now (h : HPort) (c : HeadCondition) : (s.setHead h c).now = s.now := rfl
@[simp] theorem State.setHead_pending (h : HPort) (c : HeadCondition) : (s.setHead h c).pending = s.pending := rfl

/-! ### `State.wake` -/

@[simp] theorem State.wake_hosts : (s.wake).hosts = s.hosts := rfl
@[simp] theorem State.wake_targets : (s.wake).targets = s.targets := rfl
@[simp] theorem State.wake_admission_pointer : (s.wake).admission.pointer = s.admission.pointer := rfl
@[simp] theorem State.wake_admission_mgmtPointer : (s.wake).admission.mgmtPointer = s.admission.mgmtPointer := rfl
@[simp] theorem State.wake_admission_heads : (s.wake).admission.heads = s.admission.heads := rfl
@[simp] theorem State.wake_tracker : (s.wake).tracker = s.tracker := rfl
@[simp] theorem State.wake_banks : (s.wake).banks = s.banks := rfl
@[simp] theorem State.wake_commit : (s.wake).commit = s.commit := rfl
@[simp] theorem State.wake_mgmt : (s.wake).mgmt = s.mgmt := rfl
@[simp] theorem State.wake_recorder : (s.wake).recorder = s.recorder := rfl
@[simp] theorem State.wake_notifier : (s.wake).notifier = s.notifier := rfl
@[simp] theorem State.wake_now : (s.wake).now = s.now := rfl
@[simp] theorem State.wake_pending : (s.wake).pending = s.pending := rfl

/-! ### `State.wakeTarget` -/

@[simp] theorem State.wakeTarget_hosts (p : Port) : (s.wakeTarget p).hosts = s.hosts := by cases p <;> rfl
@[simp] theorem State.wakeTarget_targets (p : Port) : (s.wakeTarget p).targets = s.targets := by cases p <;> rfl
@[simp] theorem State.wakeTarget_admission_pointer (p : Port) : (s.wakeTarget p).admission.pointer = s.admission.pointer := by cases p <;> rfl
@[simp] theorem State.wakeTarget_admission_mgmtPointer (p : Port) : (s.wakeTarget p).admission.mgmtPointer = s.admission.mgmtPointer := by cases p <;> rfl
@[simp] theorem State.wakeTarget_admission_heads (p : Port) : (s.wakeTarget p).admission.heads = s.admission.heads := by cases p <;> rfl
@[simp] theorem State.wakeTarget_tracker (p : Port) : (s.wakeTarget p).tracker = s.tracker := by cases p <;> rfl
@[simp] theorem State.wakeTarget_banks (p : Port) : (s.wakeTarget p).banks = s.banks := by cases p <;> rfl
@[simp] theorem State.wakeTarget_commit (p : Port) : (s.wakeTarget p).commit = s.commit := by cases p <;> rfl
@[simp] theorem State.wakeTarget_mgmt (p : Port) : (s.wakeTarget p).mgmt = s.mgmt := by cases p <;> rfl
@[simp] theorem State.wakeTarget_recorder (p : Port) : (s.wakeTarget p).recorder = s.recorder := by cases p <;> rfl
@[simp] theorem State.wakeTarget_notifier (p : Port) : (s.wakeTarget p).notifier = s.notifier := by cases p <;> rfl
@[simp] theorem State.wakeTarget_now (p : Port) : (s.wakeTarget p).now = s.now := by cases p <;> rfl
@[simp] theorem State.wakeTarget_pending (p : Port) : (s.wakeTarget p).pending = s.pending := by cases p <;> rfl

/-! ### `State.clearWake` -/

@[simp] theorem State.clearWake_hosts : (s.clearWake).hosts = s.hosts := rfl
@[simp] theorem State.clearWake_targets : (s.clearWake).targets = s.targets := rfl
@[simp] theorem State.clearWake_admission_pointer : (s.clearWake).admission.pointer = s.admission.pointer := rfl
@[simp] theorem State.clearWake_admission_mgmtPointer : (s.clearWake).admission.mgmtPointer = s.admission.mgmtPointer := rfl
@[simp] theorem State.clearWake_admission_heads : (s.clearWake).admission.heads = s.admission.heads := rfl
@[simp] theorem State.clearWake_tracker : (s.clearWake).tracker = s.tracker := rfl
@[simp] theorem State.clearWake_banks : (s.clearWake).banks = s.banks := rfl
@[simp] theorem State.clearWake_commit : (s.clearWake).commit = s.commit := rfl
@[simp] theorem State.clearWake_mgmt : (s.clearWake).mgmt = s.mgmt := rfl
@[simp] theorem State.clearWake_recorder : (s.clearWake).recorder = s.recorder := rfl
@[simp] theorem State.clearWake_notifier : (s.clearWake).notifier = s.notifier := rfl
@[simp] theorem State.clearWake_now : (s.clearWake).now = s.now := rfl
@[simp] theorem State.clearWake_pending : (s.clearWake).pending = s.pending := rfl

/-! ### `State.reach` -/

@[simp] theorem State.reach_hosts (m : Nat) : (s.reach m).hosts = s.hosts := rfl
@[simp] theorem State.reach_targets (m : Nat) : (s.reach m).targets = s.targets := rfl
@[simp] theorem State.reach_admission (m : Nat) : (s.reach m).admission = s.admission := rfl
@[simp] theorem State.reach_tracker (m : Nat) : (s.reach m).tracker = s.tracker := rfl
@[simp] theorem State.reach_banks (m : Nat) : (s.reach m).banks = s.banks := rfl
@[simp] theorem State.reach_commit (m : Nat) : (s.reach m).commit = s.commit := rfl
@[simp] theorem State.reach_mgmt (m : Nat) : (s.reach m).mgmt = s.mgmt := rfl
@[simp] theorem State.reach_recorder (m : Nat) : (s.reach m).recorder = s.recorder := rfl
@[simp] theorem State.reach_notifier (m : Nat) : (s.reach m).notifier = s.notifier := rfl
@[simp] theorem State.reach_pending (m : Nat) : (s.reach m).pending = s.pending := rfl

/-! ### `State.tick` -/

@[simp] theorem State.tick_hosts : (s.tick).hosts = s.hosts := rfl
@[simp] theorem State.tick_targets : (s.tick).targets = s.targets := rfl
@[simp] theorem State.tick_admission : (s.tick).admission = s.admission := rfl
@[simp] theorem State.tick_tracker : (s.tick).tracker = s.tracker := rfl
@[simp] theorem State.tick_banks : (s.tick).banks = s.banks := rfl
@[simp] theorem State.tick_commit : (s.tick).commit = s.commit := rfl
@[simp] theorem State.tick_mgmt : (s.tick).mgmt = s.mgmt := rfl
@[simp] theorem State.tick_recorder : (s.tick).recorder = s.recorder := rfl
@[simp] theorem State.tick_notifier : (s.tick).notifier = s.notifier := rfl
@[simp] theorem State.tick_pending : (s.tick).pending = s.pending := rfl

/-! ### `State.popIngress` -/

@[simp] theorem State.popIngress_admission (p : Port) : (s.popIngress p).admission = s.admission := by cases p <;> rfl
@[simp] theorem State.popIngress_tracker (p : Port) : (s.popIngress p).tracker = s.tracker := by cases p <;> rfl
@[simp] theorem State.popIngress_banks (p : Port) : (s.popIngress p).banks = s.banks := by cases p <;> rfl
@[simp] theorem State.popIngress_commit (p : Port) : (s.popIngress p).commit = s.commit := by cases p <;> rfl
@[simp] theorem State.popIngress_mgmt (p : Port) : (s.popIngress p).mgmt = s.mgmt := by cases p <;> rfl
@[simp] theorem State.popIngress_recorder (p : Port) : (s.popIngress p).recorder = s.recorder := by cases p <;> rfl
@[simp] theorem State.popIngress_notifier (p : Port) : (s.popIngress p).notifier = s.notifier := by cases p <;> rfl
@[simp] theorem State.popIngress_now (p : Port) : (s.popIngress p).now = s.now := by cases p <;> rfl
@[simp] theorem State.popIngress_pending (p : Port) : (s.popIngress p).pending = s.pending := by cases p <;> rfl

/-! ### `State.placeTarget` -/

@[simp] theorem State.placeTarget_hosts (d : DPort) (p : Packet) : (s.placeTarget d p).hosts = s.hosts := rfl
@[simp] theorem State.placeTarget_admission (d : DPort) (p : Packet) : (s.placeTarget d p).admission = s.admission := rfl
@[simp] theorem State.placeTarget_tracker (d : DPort) (p : Packet) : (s.placeTarget d p).tracker = s.tracker := rfl
@[simp] theorem State.placeTarget_banks (d : DPort) (p : Packet) : (s.placeTarget d p).banks = s.banks := rfl
@[simp] theorem State.placeTarget_commit (d : DPort) (p : Packet) : (s.placeTarget d p).commit = s.commit := rfl
@[simp] theorem State.placeTarget_mgmt (d : DPort) (p : Packet) : (s.placeTarget d p).mgmt = s.mgmt := rfl
@[simp] theorem State.placeTarget_recorder (d : DPort) (p : Packet) : (s.placeTarget d p).recorder = s.recorder := rfl
@[simp] theorem State.placeTarget_notifier (d : DPort) (p : Packet) : (s.placeTarget d p).notifier = s.notifier := rfl
@[simp] theorem State.placeTarget_now (d : DPort) (p : Packet) : (s.placeTarget d p).now = s.now := rfl
@[simp] theorem State.placeTarget_pending (d : DPort) (p : Packet) : (s.placeTarget d p).pending = s.pending := rfl

/-! ### `State.placeHost` -/

@[simp] theorem State.placeHost_targets (h : HPort) (c : EgressClass) (p : Packet) : (s.placeHost h c p).targets = s.targets := rfl
@[simp] theorem State.placeHost_admission (h : HPort) (c : EgressClass) (p : Packet) : (s.placeHost h c p).admission = s.admission := rfl
@[simp] theorem State.placeHost_tracker (h : HPort) (c : EgressClass) (p : Packet) : (s.placeHost h c p).tracker = s.tracker := rfl
@[simp] theorem State.placeHost_banks (h : HPort) (c : EgressClass) (p : Packet) : (s.placeHost h c p).banks = s.banks := rfl
@[simp] theorem State.placeHost_commit (h : HPort) (c : EgressClass) (p : Packet) : (s.placeHost h c p).commit = s.commit := rfl
@[simp] theorem State.placeHost_mgmt (h : HPort) (c : EgressClass) (p : Packet) : (s.placeHost h c p).mgmt = s.mgmt := rfl
@[simp] theorem State.placeHost_recorder (h : HPort) (c : EgressClass) (p : Packet) : (s.placeHost h c p).recorder = s.recorder := rfl
@[simp] theorem State.placeHost_notifier (h : HPort) (c : EgressClass) (p : Packet) : (s.placeHost h c p).notifier = s.notifier := rfl
@[simp] theorem State.placeHost_now (h : HPort) (c : EgressClass) (p : Packet) : (s.placeHost h c p).now = s.now := rfl
@[simp] theorem State.placeHost_pending (h : HPort) (c : EgressClass) (p : Packet) : (s.placeHost h c p).pending = s.pending := rfl

/-! ### `State.setResult` -/

@[simp] theorem State.setResult_hosts (c : Byte) (o : CommandOutcome) : (s.setResult c o).hosts = s.hosts := rfl
@[simp] theorem State.setResult_targets (c : Byte) (o : CommandOutcome) : (s.setResult c o).targets = s.targets := rfl
@[simp] theorem State.setResult_admission (c : Byte) (o : CommandOutcome) : (s.setResult c o).admission = s.admission := rfl
@[simp] theorem State.setResult_tracker (c : Byte) (o : CommandOutcome) : (s.setResult c o).tracker = s.tracker := rfl
@[simp] theorem State.setResult_banks (c : Byte) (o : CommandOutcome) : (s.setResult c o).banks = s.banks := rfl
@[simp] theorem State.setResult_commit (c : Byte) (o : CommandOutcome) : (s.setResult c o).commit = s.commit := rfl
@[simp] theorem State.setResult_mgmt_apertureBase (c : Byte) (o : CommandOutcome) : (s.setResult c o).mgmt.apertureBase = s.mgmt.apertureBase := rfl
@[simp] theorem State.setResult_mgmt_grant (c : Byte) (o : CommandOutcome) : (s.setResult c o).mgmt.grant = s.mgmt.grant := rfl
@[simp] theorem State.setResult_mgmt_supervisor (c : Byte) (o : CommandOutcome) : (s.setResult c o).mgmt.supervisor = s.mgmt.supervisor := rfl
@[simp] theorem State.setResult_mgmt_classes (c : Byte) (o : CommandOutcome) : (s.setResult c o).mgmt.classes = s.mgmt.classes := rfl
@[simp] theorem State.setResult_mgmt_latches (c : Byte) (o : CommandOutcome) : (s.setResult c o).mgmt.latches = s.mgmt.latches := rfl
@[simp] theorem State.setResult_mgmt_unit (c : Byte) (o : CommandOutcome) : (s.setResult c o).mgmt.unit = s.mgmt.unit := rfl
@[simp] theorem State.setResult_mgmt_action (c : Byte) (o : CommandOutcome) : (s.setResult c o).mgmt.action = s.mgmt.action := rfl
@[simp] theorem State.setResult_mgmt_answers (c : Byte) (o : CommandOutcome) : (s.setResult c o).mgmt.answers = s.mgmt.answers := rfl
@[simp] theorem State.setResult_recorder (c : Byte) (o : CommandOutcome) : (s.setResult c o).recorder = s.recorder := rfl
@[simp] theorem State.setResult_notifier (c : Byte) (o : CommandOutcome) : (s.setResult c o).notifier = s.notifier := rfl
@[simp] theorem State.setResult_now (c : Byte) (o : CommandOutcome) : (s.setResult c o).now = s.now := rfl
@[simp] theorem State.setResult_pending (c : Byte) (o : CommandOutcome) : (s.setResult c o).pending = s.pending := rfl

/-! ### `State.clearAnswer` -/

@[simp] theorem State.clearAnswer_hosts (h : HPort) : (s.clearAnswer h).hosts = s.hosts := rfl
@[simp] theorem State.clearAnswer_targets (h : HPort) : (s.clearAnswer h).targets = s.targets := rfl
@[simp] theorem State.clearAnswer_admission (h : HPort) : (s.clearAnswer h).admission = s.admission := rfl
@[simp] theorem State.clearAnswer_tracker (h : HPort) : (s.clearAnswer h).tracker = s.tracker := rfl
@[simp] theorem State.clearAnswer_banks (h : HPort) : (s.clearAnswer h).banks = s.banks := rfl
@[simp] theorem State.clearAnswer_commit (h : HPort) : (s.clearAnswer h).commit = s.commit := rfl
@[simp] theorem State.clearAnswer_mgmt_apertureBase (h : HPort) : (s.clearAnswer h).mgmt.apertureBase = s.mgmt.apertureBase := rfl
@[simp] theorem State.clearAnswer_mgmt_grant (h : HPort) : (s.clearAnswer h).mgmt.grant = s.mgmt.grant := rfl
@[simp] theorem State.clearAnswer_mgmt_supervisor (h : HPort) : (s.clearAnswer h).mgmt.supervisor = s.mgmt.supervisor := rfl
@[simp] theorem State.clearAnswer_mgmt_classes (h : HPort) : (s.clearAnswer h).mgmt.classes = s.mgmt.classes := rfl
@[simp] theorem State.clearAnswer_mgmt_latches (h : HPort) : (s.clearAnswer h).mgmt.latches = s.mgmt.latches := rfl
@[simp] theorem State.clearAnswer_mgmt_result (h : HPort) : (s.clearAnswer h).mgmt.result = s.mgmt.result := rfl
@[simp] theorem State.clearAnswer_mgmt_unit (h : HPort) : (s.clearAnswer h).mgmt.unit = s.mgmt.unit := rfl
@[simp] theorem State.clearAnswer_mgmt_action (h : HPort) : (s.clearAnswer h).mgmt.action = s.mgmt.action := rfl
@[simp] theorem State.clearAnswer_recorder (h : HPort) : (s.clearAnswer h).recorder = s.recorder := rfl
@[simp] theorem State.clearAnswer_notifier (h : HPort) : (s.clearAnswer h).notifier = s.notifier := rfl
@[simp] theorem State.clearAnswer_now (h : HPort) : (s.clearAnswer h).now = s.now := rfl
@[simp] theorem State.clearAnswer_pending (h : HPort) : (s.clearAnswer h).pending = s.pending := rfl

/-! ### `State.clearAction` -/

@[simp] theorem State.clearAction_hosts : (s.clearAction).hosts = s.hosts := rfl
@[simp] theorem State.clearAction_targets : (s.clearAction).targets = s.targets := rfl
@[simp] theorem State.clearAction_admission : (s.clearAction).admission = s.admission := rfl
@[simp] theorem State.clearAction_tracker : (s.clearAction).tracker = s.tracker := rfl
@[simp] theorem State.clearAction_banks : (s.clearAction).banks = s.banks := rfl
@[simp] theorem State.clearAction_commit : (s.clearAction).commit = s.commit := rfl
@[simp] theorem State.clearAction_mgmt_apertureBase : (s.clearAction).mgmt.apertureBase = s.mgmt.apertureBase := rfl
@[simp] theorem State.clearAction_mgmt_grant : (s.clearAction).mgmt.grant = s.mgmt.grant := rfl
@[simp] theorem State.clearAction_mgmt_supervisor : (s.clearAction).mgmt.supervisor = s.mgmt.supervisor := rfl
@[simp] theorem State.clearAction_mgmt_classes : (s.clearAction).mgmt.classes = s.mgmt.classes := rfl
@[simp] theorem State.clearAction_mgmt_latches : (s.clearAction).mgmt.latches = s.mgmt.latches := rfl
@[simp] theorem State.clearAction_mgmt_result : (s.clearAction).mgmt.result = s.mgmt.result := rfl
@[simp] theorem State.clearAction_mgmt_unit : (s.clearAction).mgmt.unit = s.mgmt.unit := rfl
@[simp] theorem State.clearAction_mgmt_answers : (s.clearAction).mgmt.answers = s.mgmt.answers := rfl
@[simp] theorem State.clearAction_recorder : (s.clearAction).recorder = s.recorder := rfl
@[simp] theorem State.clearAction_notifier : (s.clearAction).notifier = s.notifier := rfl
@[simp] theorem State.clearAction_now : (s.clearAction).now = s.now := rfl
@[simp] theorem State.clearAction_pending : (s.clearAction).pending = s.pending := rfl

/-! ### `State.emptyLatch` -/

@[simp] theorem State.emptyLatch_hosts (h : HPort) : (s.emptyLatch h).hosts = s.hosts := rfl
@[simp] theorem State.emptyLatch_targets (h : HPort) : (s.emptyLatch h).targets = s.targets := rfl
@[simp] theorem State.emptyLatch_admission (h : HPort) : (s.emptyLatch h).admission = s.admission := rfl
@[simp] theorem State.emptyLatch_tracker (h : HPort) : (s.emptyLatch h).tracker = s.tracker := rfl
@[simp] theorem State.emptyLatch_banks (h : HPort) : (s.emptyLatch h).banks = s.banks := rfl
@[simp] theorem State.emptyLatch_commit (h : HPort) : (s.emptyLatch h).commit = s.commit := rfl
@[simp] theorem State.emptyLatch_mgmt_apertureBase (h : HPort) : (s.emptyLatch h).mgmt.apertureBase = s.mgmt.apertureBase := rfl
@[simp] theorem State.emptyLatch_mgmt_grant (h : HPort) : (s.emptyLatch h).mgmt.grant = s.mgmt.grant := rfl
@[simp] theorem State.emptyLatch_mgmt_supervisor (h : HPort) : (s.emptyLatch h).mgmt.supervisor = s.mgmt.supervisor := rfl
@[simp] theorem State.emptyLatch_mgmt_classes (h : HPort) : (s.emptyLatch h).mgmt.classes = s.mgmt.classes := rfl
@[simp] theorem State.emptyLatch_mgmt_result (h : HPort) : (s.emptyLatch h).mgmt.result = s.mgmt.result := rfl
@[simp] theorem State.emptyLatch_mgmt_unit (h : HPort) : (s.emptyLatch h).mgmt.unit = s.mgmt.unit := rfl
@[simp] theorem State.emptyLatch_mgmt_action (h : HPort) : (s.emptyLatch h).mgmt.action = s.mgmt.action := rfl
@[simp] theorem State.emptyLatch_mgmt_answers (h : HPort) : (s.emptyLatch h).mgmt.answers = s.mgmt.answers := rfl
@[simp] theorem State.emptyLatch_recorder (h : HPort) : (s.emptyLatch h).recorder = s.recorder := rfl
@[simp] theorem State.emptyLatch_notifier (h : HPort) : (s.emptyLatch h).notifier = s.notifier := rfl
@[simp] theorem State.emptyLatch_now (h : HPort) : (s.emptyLatch h).now = s.now := rfl
@[simp] theorem State.emptyLatch_pending (h : HPort) : (s.emptyLatch h).pending = s.pending := rfl

/-! ### `State.endCommit` -/

@[simp] theorem State.endCommit_hosts (r : CommitResult) : (s.endCommit r).hosts = s.hosts := rfl
@[simp] theorem State.endCommit_targets (r : CommitResult) : (s.endCommit r).targets = s.targets := rfl
@[simp] theorem State.endCommit_admission (r : CommitResult) : (s.endCommit r).admission = s.admission := rfl
@[simp] theorem State.endCommit_tracker (r : CommitResult) : (s.endCommit r).tracker = s.tracker := rfl
@[simp] theorem State.endCommit_banks (r : CommitResult) : (s.endCommit r).banks = s.banks := rfl
@[simp] theorem State.endCommit_commit_drainDeadline (r : CommitResult) : (s.endCommit r).commit.drainDeadline = s.commit.drainDeadline := rfl
@[simp] theorem State.endCommit_mgmt (r : CommitResult) : (s.endCommit r).mgmt = s.mgmt := rfl
@[simp] theorem State.endCommit_recorder (r : CommitResult) : (s.endCommit r).recorder = s.recorder := rfl
@[simp] theorem State.endCommit_notifier (r : CommitResult) : (s.endCommit r).notifier = s.notifier := rfl
@[simp] theorem State.endCommit_now (r : CommitResult) : (s.endCommit r).now = s.now := rfl
@[simp] theorem State.endCommit_pending (r : CommitResult) : (s.endCommit r).pending = s.pending := rfl

/-! ### `State.beginDrain` -/

@[simp] theorem State.beginDrain_hosts : (s.beginDrain).hosts = s.hosts := rfl
@[simp] theorem State.beginDrain_targets : (s.beginDrain).targets = s.targets := rfl
@[simp] theorem State.beginDrain_admission : (s.beginDrain).admission = s.admission := rfl
@[simp] theorem State.beginDrain_tracker : (s.beginDrain).tracker = s.tracker := rfl
@[simp] theorem State.beginDrain_banks : (s.beginDrain).banks = s.banks := rfl
@[simp] theorem State.beginDrain_commit_result : (s.beginDrain).commit.result = s.commit.result := rfl
@[simp] theorem State.beginDrain_commit_drainDeadline : (s.beginDrain).commit.drainDeadline = s.commit.drainDeadline := rfl
@[simp] theorem State.beginDrain_mgmt : (s.beginDrain).mgmt = s.mgmt := rfl
@[simp] theorem State.beginDrain_recorder : (s.beginDrain).recorder = s.recorder := rfl
@[simp] theorem State.beginDrain_notifier : (s.beginDrain).notifier = s.notifier := rfl
@[simp] theorem State.beginDrain_now : (s.beginDrain).now = s.now := rfl
@[simp] theorem State.beginDrain_pending : (s.beginDrain).pending = s.pending := rfl

/-! ### `State.queueRecord` -/

@[simp] theorem State.queueRecord_hosts (f : FaultRecord) : (s.queueRecord f).hosts = s.hosts := rfl
@[simp] theorem State.queueRecord_targets (f : FaultRecord) : (s.queueRecord f).targets = s.targets := rfl
@[simp] theorem State.queueRecord_admission (f : FaultRecord) : (s.queueRecord f).admission = s.admission := rfl
@[simp] theorem State.queueRecord_tracker (f : FaultRecord) : (s.queueRecord f).tracker = s.tracker := rfl
@[simp] theorem State.queueRecord_banks (f : FaultRecord) : (s.queueRecord f).banks = s.banks := rfl
@[simp] theorem State.queueRecord_commit (f : FaultRecord) : (s.queueRecord f).commit = s.commit := rfl
@[simp] theorem State.queueRecord_mgmt (f : FaultRecord) : (s.queueRecord f).mgmt = s.mgmt := rfl
@[simp] theorem State.queueRecord_notifier (f : FaultRecord) : (s.queueRecord f).notifier = s.notifier := rfl
@[simp] theorem State.queueRecord_now (f : FaultRecord) : (s.queueRecord f).now = s.now := rfl
@[simp] theorem State.queueRecord_pending (f : FaultRecord) : (s.queueRecord f).pending = s.pending := rfl

/-! ### `State.orphan` -/

@[simp] theorem State.orphan_hosts (h : HPort) : (s.orphan h).hosts = s.hosts := by simp only [State.orphan]
@[simp] theorem State.orphan_targets (h : HPort) : (s.orphan h).targets = s.targets := by simp only [State.orphan]
@[simp] theorem State.orphan_admission (h : HPort) : (s.orphan h).admission = s.admission := by simp only [State.orphan]
@[simp] theorem State.orphan_tracker_pointers (h : HPort) : (s.orphan h).tracker.pointers = s.tracker.pointers := by simp only [State.orphan]
@[simp] theorem State.orphan_tracker_waiting (h : HPort) : (s.orphan h).tracker.waiting = s.tracker.waiting := by simp only [State.orphan]
@[simp] theorem State.orphan_tracker_nextOrder (h : HPort) : (s.orphan h).tracker.nextOrder = s.tracker.nextOrder := by simp only [State.orphan]
@[simp] theorem State.orphan_banks (h : HPort) : (s.orphan h).banks = s.banks := by simp only [State.orphan]
@[simp] theorem State.orphan_commit (h : HPort) : (s.orphan h).commit = s.commit := by simp only [State.orphan]
@[simp] theorem State.orphan_mgmt (h : HPort) : (s.orphan h).mgmt = s.mgmt := by simp only [State.orphan]
@[simp] theorem State.orphan_recorder (h : HPort) : (s.orphan h).recorder = s.recorder := by simp only [State.orphan]
@[simp] theorem State.orphan_notifier (h : HPort) : (s.orphan h).notifier = s.notifier := by simp only [State.orphan]
@[simp] theorem State.orphan_now (h : HPort) : (s.orphan h).now = s.now := by simp only [State.orphan]
@[simp] theorem State.orphan_pending (h : HPort) : (s.orphan h).pending = s.pending := by simp only [State.orphan]

/-! ### `State.freeEntriesOf` -/

@[simp] theorem State.freeEntriesOf_hosts (d : DPort) : (s.freeEntriesOf d).hosts = s.hosts := by simp only [State.freeEntriesOf]
@[simp] theorem State.freeEntriesOf_targets (d : DPort) : (s.freeEntriesOf d).targets = s.targets := by simp only [State.freeEntriesOf]
@[simp] theorem State.freeEntriesOf_admission (d : DPort) : (s.freeEntriesOf d).admission = s.admission := by simp only [State.freeEntriesOf]
@[simp] theorem State.freeEntriesOf_tracker_answers (d : DPort) : (s.freeEntriesOf d).tracker.answers = s.tracker.answers := by simp only [State.freeEntriesOf]
@[simp] theorem State.freeEntriesOf_tracker_pointers (d : DPort) : (s.freeEntriesOf d).tracker.pointers = s.tracker.pointers := by simp only [State.freeEntriesOf]
@[simp] theorem State.freeEntriesOf_tracker_waiting (d : DPort) : (s.freeEntriesOf d).tracker.waiting = s.tracker.waiting := by simp only [State.freeEntriesOf]
@[simp] theorem State.freeEntriesOf_tracker_nextOrder (d : DPort) : (s.freeEntriesOf d).tracker.nextOrder = s.tracker.nextOrder := by simp only [State.freeEntriesOf]
@[simp] theorem State.freeEntriesOf_banks (d : DPort) : (s.freeEntriesOf d).banks = s.banks := by simp only [State.freeEntriesOf]
@[simp] theorem State.freeEntriesOf_commit (d : DPort) : (s.freeEntriesOf d).commit = s.commit := by simp only [State.freeEntriesOf]
@[simp] theorem State.freeEntriesOf_mgmt (d : DPort) : (s.freeEntriesOf d).mgmt = s.mgmt := by simp only [State.freeEntriesOf]
@[simp] theorem State.freeEntriesOf_recorder (d : DPort) : (s.freeEntriesOf d).recorder = s.recorder := by simp only [State.freeEntriesOf]
@[simp] theorem State.freeEntriesOf_notifier (d : DPort) : (s.freeEntriesOf d).notifier = s.notifier := by simp only [State.freeEntriesOf]
@[simp] theorem State.freeEntriesOf_now (d : DPort) : (s.freeEntriesOf d).now = s.now := by simp only [State.freeEntriesOf]
@[simp] theorem State.freeEntriesOf_pending (d : DPort) : (s.freeEntriesOf d).pending = s.pending := by simp only [State.freeEntriesOf]

/-! ### `State.withdrawWaiting` -/

@[simp] theorem State.withdrawWaiting_hosts (h : HPort) : (s.withdrawWaiting h).hosts = s.hosts := by simp only [State.withdrawWaiting]
@[simp] theorem State.withdrawWaiting_admission (h : HPort) : (s.withdrawWaiting h).admission = s.admission := by simp only [State.withdrawWaiting]
@[simp] theorem State.withdrawWaiting_tracker_ort (h : HPort) : (s.withdrawWaiting h).tracker.ort = s.tracker.ort := by simp only [State.withdrawWaiting]
@[simp] theorem State.withdrawWaiting_tracker_answers (h : HPort) : (s.withdrawWaiting h).tracker.answers = s.tracker.answers := by simp only [State.withdrawWaiting]
@[simp] theorem State.withdrawWaiting_tracker_pointers (h : HPort) : (s.withdrawWaiting h).tracker.pointers = s.tracker.pointers := by simp only [State.withdrawWaiting]
@[simp] theorem State.withdrawWaiting_tracker_nextOrder (h : HPort) : (s.withdrawWaiting h).tracker.nextOrder = s.tracker.nextOrder := by simp only [State.withdrawWaiting]
@[simp] theorem State.withdrawWaiting_banks (h : HPort) : (s.withdrawWaiting h).banks = s.banks := by simp only [State.withdrawWaiting]
@[simp] theorem State.withdrawWaiting_commit (h : HPort) : (s.withdrawWaiting h).commit = s.commit := by simp only [State.withdrawWaiting]
@[simp] theorem State.withdrawWaiting_mgmt (h : HPort) : (s.withdrawWaiting h).mgmt = s.mgmt := by simp only [State.withdrawWaiting]
@[simp] theorem State.withdrawWaiting_recorder (h : HPort) : (s.withdrawWaiting h).recorder = s.recorder := by simp only [State.withdrawWaiting]
@[simp] theorem State.withdrawWaiting_notifier (h : HPort) : (s.withdrawWaiting h).notifier = s.notifier := by simp only [State.withdrawWaiting]
@[simp] theorem State.withdrawWaiting_now (h : HPort) : (s.withdrawWaiting h).now = s.now := by simp only [State.withdrawWaiting]
@[simp] theorem State.withdrawWaiting_pending (h : HPort) : (s.withdrawWaiting h).pending = s.pending := by simp only [State.withdrawWaiting]

/-! ### `State.withdrawRequest` -/

@[simp] theorem State.withdrawRequest_hosts (e : EntryIx) : (s.withdrawRequest e).hosts = s.hosts := rfl
@[simp] theorem State.withdrawRequest_admission (e : EntryIx) : (s.withdrawRequest e).admission = s.admission := rfl
@[simp] theorem State.withdrawRequest_tracker (e : EntryIx) : (s.withdrawRequest e).tracker = s.tracker := rfl
@[simp] theorem State.withdrawRequest_banks (e : EntryIx) : (s.withdrawRequest e).banks = s.banks := rfl
@[simp] theorem State.withdrawRequest_commit (e : EntryIx) : (s.withdrawRequest e).commit = s.commit := rfl
@[simp] theorem State.withdrawRequest_mgmt (e : EntryIx) : (s.withdrawRequest e).mgmt = s.mgmt := rfl
@[simp] theorem State.withdrawRequest_recorder (e : EntryIx) : (s.withdrawRequest e).recorder = s.recorder := rfl
@[simp] theorem State.withdrawRequest_notifier (e : EntryIx) : (s.withdrawRequest e).notifier = s.notifier := rfl
@[simp] theorem State.withdrawRequest_now (e : EntryIx) : (s.withdrawRequest e).now = s.now := rfl
@[simp] theorem State.withdrawRequest_pending (e : EntryIx) : (s.withdrawRequest e).pending = s.pending := rfl

/-! ### `State.restartRnt` -/

@[simp] theorem State.restartRnt_hosts (n : Nat) : (s.restartRnt n).hosts = s.hosts := rfl
@[simp] theorem State.restartRnt_targets (n : Nat) : (s.restartRnt n).targets = s.targets := rfl
@[simp] theorem State.restartRnt_admission (n : Nat) : (s.restartRnt n).admission = s.admission := rfl
@[simp] theorem State.restartRnt_tracker (n : Nat) : (s.restartRnt n).tracker = s.tracker := rfl
@[simp] theorem State.restartRnt_banks (n : Nat) : (s.restartRnt n).banks = s.banks := rfl
@[simp] theorem State.restartRnt_commit (n : Nat) : (s.restartRnt n).commit = s.commit := rfl
@[simp] theorem State.restartRnt_mgmt (n : Nat) : (s.restartRnt n).mgmt = s.mgmt := rfl
@[simp] theorem State.restartRnt_recorder (n : Nat) : (s.restartRnt n).recorder = s.recorder := rfl
@[simp] theorem State.restartRnt_notifier_items (n : Nat) : (s.restartRnt n).notifier.items = s.notifier.items := rfl
@[simp] theorem State.restartRnt_notifier_address (n : Nat) : (s.restartRnt n).notifier.address = s.notifier.address := rfl
@[simp] theorem State.restartRnt_notifier_tRntCode (n : Nat) : (s.restartRnt n).notifier.tRntCode = s.notifier.tRntCode := rfl
@[simp] theorem State.restartRnt_notifier_resendLimit (n : Nat) : (s.restartRnt n).notifier.resendLimit = s.notifier.resendLimit := rfl
@[simp] theorem State.restartRnt_notifier_sequence (n : Nat) : (s.restartRnt n).notifier.sequence = s.notifier.sequence := rfl
@[simp] theorem State.restartRnt_notifier_outstanding (n : Nat) : (s.restartRnt n).notifier.outstanding = s.notifier.outstanding := rfl
@[simp] theorem State.restartRnt_notifier_noticesLost (n : Nat) : (s.restartRnt n).notifier.noticesLost = s.notifier.noticesLost := rfl
@[simp] theorem State.restartRnt_notifier_copy (n : Nat) : (s.restartRnt n).notifier.copy = s.notifier.copy := rfl
@[simp] theorem State.restartRnt_now (n : Nat) : (s.restartRnt n).now = s.now := rfl
@[simp] theorem State.restartRnt_pending (n : Nat) : (s.restartRnt n).pending = s.pending := rfl

/-! ### `State.stall` -/

@[simp] theorem State.stall_hosts : (s.stall).hosts = s.hosts := rfl
@[simp] theorem State.stall_targets : (s.stall).targets = s.targets := rfl
@[simp] theorem State.stall_admission : (s.stall).admission = s.admission := rfl
@[simp] theorem State.stall_tracker : (s.stall).tracker = s.tracker := rfl
@[simp] theorem State.stall_banks : (s.stall).banks = s.banks := rfl
@[simp] theorem State.stall_commit : (s.stall).commit = s.commit := rfl
@[simp] theorem State.stall_mgmt : (s.stall).mgmt = s.mgmt := rfl
@[simp] theorem State.stall_recorder : (s.stall).recorder = s.recorder := rfl
@[simp] theorem State.stall_notifier_items : (s.stall).notifier.items = s.notifier.items := rfl
@[simp] theorem State.stall_notifier_address : (s.stall).notifier.address = s.notifier.address := rfl
@[simp] theorem State.stall_notifier_tRntCode : (s.stall).notifier.tRntCode = s.notifier.tRntCode := rfl
@[simp] theorem State.stall_notifier_resendLimit : (s.stall).notifier.resendLimit = s.notifier.resendLimit := rfl
@[simp] theorem State.stall_notifier_sequence : (s.stall).notifier.sequence = s.notifier.sequence := rfl
@[simp] theorem State.stall_notifier_outstanding : (s.stall).notifier.outstanding = s.notifier.outstanding := rfl
@[simp] theorem State.stall_notifier_resends : (s.stall).notifier.resends = s.notifier.resends := rfl
@[simp] theorem State.stall_notifier_noticesLost : (s.stall).notifier.noticesLost = s.notifier.noticesLost := rfl
@[simp] theorem State.stall_now : (s.stall).now = s.now := rfl
@[simp] theorem State.stall_pending : (s.stall).pending = s.pending := rfl

/-! ### The parts the updates change -/

@[simp] theorem State.setHost_self (h : HPort) (f : HostPort → HostPort) :
    (s.setHost h f).hosts[h.val] = f s.hosts[h.val] := by simp [State.setHost]

theorem State.setHost_other (h g : HPort) (f : HostPort → HostPort) (hg : g ≠ h) :
    (s.setHost h f).hosts[g.val] = s.hosts[g.val] := by
  have : h.val ≠ g.val := fun e => hg (Fin.ext e.symm)
  simp [State.setHost, Vector.getElem_set_ne, this]

@[simp] theorem State.setTarget_self (d : DPort) (f : TargetPort → TargetPort) :
    (s.setTarget d f).targets[d.val] = f s.targets[d.val] := by simp [State.setTarget]

theorem State.setTarget_other (d c : DPort) (f : TargetPort → TargetPort) (hc : c ≠ d) :
    (s.setTarget d f).targets[c.val] = s.targets[c.val] := by
  have : d.val ≠ c.val := fun e => hc (Fin.ext e.symm)
  simp [State.setTarget, Vector.getElem_set_ne, this]

@[simp] theorem State.setLink_self (p : Port) (f : PortUnit → PortUnit) :
    (s.setLink p f).link p = f (s.link p) := by
  cases p with
  | host h => exact congrArg HostPort.link (State.setHost_self s h _)
  | target d => exact congrArg TargetPort.link (State.setTarget_self s d _)

theorem State.setLink_other (p q : Port) (f : PortUnit → PortUnit) (hq : q ≠ p) :
    (s.setLink p f).link q = s.link q := by
  cases p with
  | host h =>
    cases q with
    | host g => exact congrArg HostPort.link (State.setHost_other s h g _ fun x => hq (congrArg Port.host x))
    | target c => rfl
  | target d =>
    cases q with
    | host g => rfl
    | target c => exact congrArg TargetPort.link (State.setTarget_other s d c _ fun x => hq (congrArg Port.target x))

@[simp] theorem State.setEntry_self (e : EntryIx) (f : Entry → Entry) :
    (s.setEntry e f).tracker.ort[e.val] = f s.tracker.ort[e.val] := by simp [State.setEntry]

theorem State.setEntry_other (e x : EntryIx) (f : Entry → Entry) (hx : x ≠ e) :
    (s.setEntry e f).tracker.ort[x.val] = s.tracker.ort[x.val] := by
  have : e.val ≠ x.val := fun y => hx (Fin.ext y.symm)
  simp [State.setEntry, Vector.getElem_set_ne, this]

@[simp] theorem State.setHead_self (h : HPort) (c : HeadCondition) :
    (s.setHead h c).admission.heads[h.val] = c := by simp [State.setHead]

theorem State.setHead_other (h g : HPort) (c : HeadCondition) (hg : g ≠ h) :
    (s.setHead h c).admission.heads[g.val] = s.admission.heads[g.val] := by
  have : h.val ≠ g.val := fun e => hg (Fin.ext e.symm)
  simp [State.setHead, Vector.getElem_set_ne, this]

@[simp] theorem State.wake_passDue : s.wake.admission.passDue = true := rfl
@[simp] theorem State.clearWake_passDue : s.clearWake.admission.passDue = false := rfl
@[simp] theorem State.reach_now (m : Nat) : (s.reach m).now = max s.now m := rfl
@[simp] theorem State.setResult_result (c : Byte) (o : CommandOutcome) :
    (s.setResult c o).mgmt.result = { code := c, outcome := o } := rfl
@[simp] theorem State.clearAction_action : s.clearAction.mgmt.action = none := rfl
@[simp] theorem State.endCommit_engine (r : CommitResult) : (s.endCommit r).commit.engine = .idle := rfl
@[simp] theorem State.endCommit_tDrn (r : CommitResult) : (s.endCommit r).commit.tDrn = none := rfl
@[simp] theorem State.endCommit_result (r : CommitResult) : (s.endCommit r).commit.result = r := rfl
@[simp] theorem State.stall_channel : s.stall.notifier.channel = .stalled := rfl
@[simp] theorem State.restartRnt_channel (n : Nat) : (s.restartRnt n).notifier.channel = .awaitingAck := rfl
@[simp] theorem State.clearAnswer_self (h : HPort) : (s.clearAnswer h).mgmt.answers[h.val] = none := by
  simp [State.clearAnswer]
@[simp] theorem State.emptyLatch_self (h : HPort) : (s.emptyLatch h).mgmt.latches[h.val] = none := by
  simp [State.emptyLatch]

/-- A port's count of arrived and waiting packets changes only at that port: the unit of a host port is its link. -/
@[simp] theorem State.link_host (h : HPort) : s.link (.host h) = s.hosts[h.val].link := rfl
@[simp] theorem State.link_target (d : DPort) : s.link (.target d) = s.targets[d.val].link := rfl

end Sys2Proof.Machine
end

