-- ==== Sys2Proof/Laws/Frame.lean ====
section
/-! SUPPORT. What no shared operation changes: the settings, the moment and the waiting commands, gathered in one record,
with one lemma for each operation. -/

namespace Sys2Proof.Machine

/-- The settings, the moment and the waiting commands of a state. -/
structure Fixed where
  apertureBase : Block
  grant : BitVec 4
  supervisor : HPort
  classes : Vector FaultClass 17
  address : Addr
  tRntCode : Nat
  resendLimit : Nat
  drainDeadline : Nat
  attemptLimit : Port → Nat
  hostLimit : HPort → Nat
  targetLimit : DPort → Nat
  timeoutCode : DPort → Fin 8
  threshold : DPort → Severity
  isolateOnFailing : DPort → Bool
  now : Nat
  pending : List Instr

/-- The settings, the moment and the waiting commands of a state. -/
def State.fixed (s : State) : Fixed :=
  { apertureBase := s.mgmt.apertureBase, grant := s.mgmt.grant, supervisor := s.mgmt.supervisor,
    classes := s.mgmt.classes, address := s.notifier.address, tRntCode := s.notifier.tRntCode,
    resendLimit := s.notifier.resendLimit, drainDeadline := s.commit.drainDeadline,
    attemptLimit := fun p => (s.link p).attemptLimit, hostLimit := fun h => s.hosts[h].outstandingLimit,
    targetLimit := fun d => s.targets[d].outstandingLimit, timeoutCode := fun d => s.targets[d].timeoutCode,
    threshold := fun d => s.targets[d].threshold, isolateOnFailing := fun d => s.targets[d].isolateOnFailing,
    now := s.now, pending := s.pending }

/-- A host port unit keeps its configuration. -/
def HostPort.SameConfig (x y : HostPort) : Prop :=
  y.link.attemptLimit = x.link.attemptLimit ∧ y.outstandingLimit = x.outstandingLimit

/-- A target port unit keeps its configuration. -/
def TargetPort.SameConfig (x y : TargetPort) : Prop :=
  y.link.attemptLimit = x.link.attemptLimit ∧ y.outstandingLimit = x.outstandingLimit ∧
    y.timeoutCode = x.timeoutCode ∧ y.threshold = x.threshold ∧ y.isolateOnFailing = x.isolateOnFailing

/-- Equal settings and a frame of the rest: the relation the statements use. -/
theorem State.sameSettings_of_fixed {s t : State} (h : t.fixed = s.fixed) : SameSettings s t := by
  have := h
  simp only [State.fixed, Fixed.mk.injEq] at this
  obtain ⟨h1, h2, h3, h4, h5, h6, h7, h8, h9, h10, h11, h12, h13, h14, -, -⟩ := this
  exact ⟨h1, h2, h3, h4, h5, h6, h7, h8, congrFun h9, congrFun h10, congrFun h11, congrFun h12, congrFun h13,
    congrFun h14⟩

/-- Equal settings leave the moment and the queue as they were. -/
theorem State.now_of_fixed {s t : State} (h : t.fixed = s.fixed) : t.now = s.now := congrArg Fixed.now h

theorem State.pending_of_fixed {s t : State} (h : t.fixed = s.fixed) : t.pending = s.pending :=
  congrArg Fixed.pending h

/-- Equality of the gathered record from its parts: what a state with other ports must keep. -/
theorem State.fixed_of_ports {s t : State} (hh : ∀ h : HPort, HostPort.SameConfig s.hosts[h] t.hosts[h])
    (hd : ∀ d : DPort, TargetPort.SameConfig s.targets[d] t.targets[d])
    (hm : t.mgmt.apertureBase = s.mgmt.apertureBase ∧ t.mgmt.grant = s.mgmt.grant ∧
      t.mgmt.supervisor = s.mgmt.supervisor ∧ t.mgmt.classes = s.mgmt.classes)
    (hn : t.notifier.address = s.notifier.address ∧ t.notifier.tRntCode = s.notifier.tRntCode ∧
      t.notifier.resendLimit = s.notifier.resendLimit)
    (hc : t.commit.drainDeadline = s.commit.drainDeadline) (hnow : t.now = s.now)
    (hp : t.pending = s.pending) : t.fixed = s.fixed := by
  simp only [State.fixed, Fixed.mk.injEq]
  refine ⟨hm.1, hm.2.1, hm.2.2.1, hm.2.2.2, hn.1, hn.2.1, hn.2.2, hc, ?_, ?_, ?_, ?_, ?_, ?_, hnow, hp⟩
  · funext p
    cases p with
    | host h => exact (hh h).1
    | target d => exact (hd d).1
  · funext h; exact (hh h).2
  · funext d; exact (hd d).2.1
  · funext d; exact (hd d).2.2.1
  · funext d; exact (hd d).2.2.2.1
  · funext d; exact (hd d).2.2.2.2

theorem HostPort.SameConfig.refl (x : HostPort) : HostPort.SameConfig x x := ⟨rfl, rfl⟩
theorem TargetPort.SameConfig.refl (x : TargetPort) : TargetPort.SameConfig x x := ⟨rfl, rfl, rfl, rfl, rfl⟩

/-! ### Updates of one part -/

theorem State.setHost_fixed (s : State) (h : HPort) (f : HostPort → HostPort)
    (hf : ∀ x, HostPort.SameConfig x (f x)) : (s.setHost h f).fixed = s.fixed := by
  apply State.fixed_of_ports
  · intro g
    by_cases e : g = h
    · subst e; exact (State.setHost_self s g f).symm ▸ hf _
    · rw [show (s.setHost h f).hosts[g] = s.hosts[g] from State.setHost_other s h g f e]; exact .refl _
  · intro d; exact .refl _
  · exact ⟨rfl, rfl, rfl, rfl⟩
  · exact ⟨rfl, rfl, rfl⟩
  · rfl
  · rfl
  · rfl

theorem State.setTarget_fixed (s : State) (d : DPort) (f : TargetPort → TargetPort)
    (hf : ∀ x, TargetPort.SameConfig x (f x)) : (s.setTarget d f).fixed = s.fixed := by
  apply State.fixed_of_ports
  · intro h; exact .refl _
  · intro c
    by_cases e : c = d
    · subst e; exact (State.setTarget_self s c f).symm ▸ hf _
    · rw [show (s.setTarget d f).targets[c] = s.targets[c] from State.setTarget_other s d c f e]; exact .refl _
  · exact ⟨rfl, rfl, rfl, rfl⟩
  · exact ⟨rfl, rfl, rfl⟩
  · rfl
  · rfl
  · rfl

theorem State.setLink_fixed (s : State) (p : Port) (f : PortUnit → PortUnit)
    (hf : ∀ u, (f u).attemptLimit = u.attemptLimit) : (s.setLink p f).fixed = s.fixed := by
  cases p with
  | host h => exact State.setHost_fixed s h _ fun x => ⟨hf x.link, rfl⟩
  | target d => exact State.setTarget_fixed s d _ fun x => ⟨hf x.link, rfl, rfl, rfl, rfl⟩

@[simp] theorem State.setEntry_fixed (s : State) (e : EntryIx) (f : Entry → Entry) :
    (s.setEntry e f).fixed = s.fixed := rfl
@[simp] theorem State.setHead_fixed (s : State) (h : HPort) (c : HeadCondition) :
    (s.setHead h c).fixed = s.fixed := rfl
@[simp] theorem State.wake_fixed (s : State) : s.wake.fixed = s.fixed := rfl
@[simp] theorem State.clearWake_fixed (s : State) : s.clearWake.fixed = s.fixed := rfl
@[simp] theorem State.wakeTarget_fixed (s : State) (p : Port) : (s.wakeTarget p).fixed = s.fixed := by
  cases p <;> rfl
@[simp] theorem State.popIngress_fixed (s : State) (p : Port) : (s.popIngress p).fixed = s.fixed :=
  s.setLink_fixed p _ fun _ => rfl
@[simp] theorem State.placeTarget_fixed (s : State) (d : DPort) (p : Packet) :
    (s.placeTarget d p).fixed = s.fixed := s.setLink_fixed (.target d) _ fun _ => rfl
@[simp] theorem State.placeHost_fixed (s : State) (h : HPort) (c : EgressClass) (p : Packet) :
    (s.placeHost h c p).fixed = s.fixed := s.setHost_fixed h _ fun _ => ⟨rfl, rfl⟩
@[simp] theorem State.withdrawRequest_fixed (s : State) (e : EntryIx) : (s.withdrawRequest e).fixed = s.fixed :=
  s.setLink_fixed (.target (s.tracker.ort[e]).target) _ fun _ => rfl
@[simp] theorem State.endCommit_fixed (s : State) (r : CommitResult) : (s.endCommit r).fixed = s.fixed := rfl
@[simp] theorem State.beginDrain_fixed (s : State) : s.beginDrain.fixed = s.fixed := rfl
@[simp] theorem State.setResult_fixed (s : State) (c : Byte) (o : CommandOutcome) :
    (s.setResult c o).fixed = s.fixed := rfl
@[simp] theorem State.clearAnswer_fixed (s : State) (h : HPort) : (s.clearAnswer h).fixed = s.fixed := rfl
@[simp] theorem State.clearAction_fixed (s : State) : s.clearAction.fixed = s.fixed := rfl
@[simp] theorem State.emptyLatch_fixed (s : State) (h : HPort) : (s.emptyLatch h).fixed = s.fixed := rfl
@[simp] theorem State.queueRecord_fixed (s : State) (f : FaultRecord) : (s.queueRecord f).fixed = s.fixed := rfl
@[simp] theorem State.restartRnt_fixed (s : State) (n : Nat) : (s.restartRnt n).fixed = s.fixed := rfl
@[simp] theorem State.stall_fixed (s : State) : s.stall.fixed = s.fixed := rfl
@[simp] theorem State.reach_fixed (s : State) (m : Nat) :
    (s.reach m).fixed = { s.fixed with now := max s.now m } := rfl
@[simp] theorem State.orphan_fixed (s : State) (h : HPort) : (s.orphan h).fixed = s.fixed := by
  apply State.fixed_of_ports <;> intros <;> simp [HostPort.SameConfig, TargetPort.SameConfig]
@[simp] theorem State.freeEntriesOf_fixed (s : State) (d : DPort) : (s.freeEntriesOf d).fixed = s.fixed := by
  apply State.fixed_of_ports <;> intros <;> simp [HostPort.SameConfig, TargetPort.SameConfig]

@[simp] theorem State.withdrawWaiting_fixed (s : State) (h : HPort) : (s.withdrawWaiting h).fixed = s.fixed := by
  apply State.fixed_of_ports
  · intro g; exact .refl _
  · intro d
    simp only [State.withdrawWaiting, Fin.getElem_fin, Vector.getElem_ofFn]
    split <;> exact .refl _
  · exact ⟨rfl, rfl, rfl, rfl⟩
  · exact ⟨rfl, rfl, rfl⟩
  · rfl
  · rfl
  · rfl

/-! ### Operations of several parts -/

@[simp] theorem State.swap_fixed (s : State) : s.swap.fixed = s.fixed := rfl

@[simp] theorem State.drainCheck_fixed (s : State) : s.drainCheck.fixed = s.fixed := by
  unfold State.drainCheck; split <;> rfl

@[simp] theorem State.placeTracker_fixed (s : State) (h : HPort) : (s.placeTracker h).fixed = s.fixed := by
  unfold State.placeTracker
  split
  · split
    · rfl
    · rw [State.popIngress_fixed]; exact s.placeHost_fixed h _ _
    · rw [State.wake_fixed]; exact s.placeHost_fixed h _ _
  · rfl

@[simp] theorem State.appendAnswer_fixed (s : State) (h : HPort) (tag : Byte) (st : Status) (d : DPort) :
    (s.appendAnswer h tag st d).fixed = s.fixed := by
  unfold State.appendAnswer; rw [State.placeTracker_fixed]; rfl

@[simp] theorem State.produce_fixed (s : State) (d : DPort) (h : HPort) (p : Packet) :
    (s.produce d h p).fixed = s.fixed := by
  unfold State.produce; rw [State.placeTracker_fixed]; rfl

@[simp] theorem State.sendNotification_fixed (s : State) : s.sendNotification.fixed = s.fixed := by
  unfold State.sendNotification
  split
  · split
    · rfl
    · exact s.placeHost_fixed _ _ _
  · rfl

@[simp] theorem State.placeCopy_fixed (s : State) : s.placeCopy.fixed = s.fixed := by
  unfold State.placeCopy
  split
  · rfl
  · split
    · exact s.placeHost_fixed _ _ _
    · rfl

@[simp] theorem State.presentCopy_fixed (s : State) : s.presentCopy.fixed = s.fixed := by
  unfold State.presentCopy
  split
  · rfl
  · split
    · rw [State.placeCopy_fixed]; rfl
    · rfl

@[simp] theorem State.appendItem_fixed (s : State) (i : PendingItem) : (s.appendItem i).fixed = s.fixed := by
  unfold State.appendItem; rw [State.sendNotification_fixed]; rfl

@[simp] theorem State.notice_fixed (s : State) (k : FaultKind) (p : Port) (q : Seq) :
    (s.notice k p q).fixed = s.fixed := by
  unfold State.notice; split
  · exact s.appendItem_fixed _
  · rfl

@[simp] theorem State.snapAndNotice_fixed (s : State) (f : FaultRecord) (c : Option HeaderCapture) :
    (s.snapAndNotice f c).fixed = s.fixed := by
  unfold State.snapAndNotice; rw [State.notice_fixed]; rfl

@[simp] theorem State.takeReport_fixed (s : State) (r : Report) : (s.takeReport r).fixed = s.fixed := by
  have h : (if s.reportOutcome r = .carriedOut then s.setLink r.port fun u => { u with state := .isolated }
      else s).fixed = s.fixed := by
    split
    · exact s.setLink_fixed _ _ fun _ => rfl
    · rfl
  unfold State.takeReport
  simp only
  split <;> simp only [State.queueRecord_fixed, State.snapAndNotice_fixed, h]

@[simp] theorem State.leaveHeld_fixed (s : State) (h : HPort) : (s.leaveHeld h).fixed = s.fixed := by
  unfold State.leaveHeld; split <;> rfl

@[simp] theorem State.freeUnit_fixed (s : State) (h : HPort) : (s.freeUnit h).fixed = s.fixed := by
  unfold State.freeUnit; rw [State.wake_fixed, State.leaveHeld_fixed]; rfl

@[simp] theorem State.completeSelf_fixed (s : State) (a : Access) (x : Option SelfAction) :
    (s.completeSelf a x).fixed = s.fixed := by
  unfold State.completeSelf; rw [State.freeUnit_fixed]; split <;> rfl

@[simp] theorem State.answerGone_fixed (s : State) (h : HPort) : (s.answerGone h).fixed = s.fixed := by
  unfold State.answerGone
  split
  · split
    · exact s.completeSelf_fixed _ _
    · rfl
  · rfl

@[simp] theorem State.enterAnswer_fixed (s : State) (h : HPort) : (s.enterAnswer h).fixed = s.fixed := by
  unfold State.enterAnswer
  split
  · rfl
  · split
    · rw [State.answerGone_fixed, State.wake_fixed, State.clearAnswer_fixed, State.placeHost_fixed]
    · rfl

@[simp] theorem State.discardAnswer_fixed (s : State) (h : HPort) : (s.discardAnswer h).fixed = s.fixed := by
  unfold State.discardAnswer
  split
  · rfl
  · rw [State.answerGone_fixed, State.clearAnswer_fixed]

@[simp] theorem State.presentAnswer_fixed (s : State) (h : HPort) (p : Option Packet) :
    (s.presentAnswer h p).fixed = s.fixed := by
  unfold State.presentAnswer
  split
  · rfl
  · split
    · rw [State.enterAnswer_fixed]; rfl
    · rfl

@[simp] theorem State.withdrawCopy_fixed (s : State) (h : HPort) : (s.withdrawCopy h).fixed = s.fixed := by
  unfold State.withdrawCopy; split <;> rfl

@[simp] theorem State.hostLeavesUp_fixed (s : State) (h : HPort) (l : LinkState) :
    (s.hostLeavesUp h l).fixed = s.fixed := by
  have k : ∀ u : State, (if u.losesAnswer h l then u.discardAnswer h else u).fixed = u.fixed := fun u => by
    split
    · exact u.discardAnswer_fixed h
    · rfl
  unfold State.hostLeavesUp
  simp only [k, State.wake_fixed, State.withdrawCopy_fixed, State.emptyLatch_fixed, State.orphan_fixed,
    State.withdrawWaiting_fixed, State.setHead_fixed]
  exact s.setHost_fixed h _ fun _ => ⟨rfl, rfl⟩

@[simp] theorem State.answerAll_fixed (s : State) (d : DPort) (l : List (HPort × Byte)) :
    (s.answerAll d l).fixed = s.fixed := by
  unfold State.answerAll
  induction l generalizing s with
  | nil => rfl
  | cons x l ih => rw [List.foldl_cons, ih, State.appendAnswer_fixed]

@[simp] theorem State.targetLeavesUp_fixed (s : State) (d : DPort) (l : LinkState) :
    (s.targetLeavesUp d l).fixed = s.fixed := by
  have h : (s.setLink (.target d) fun u => { u.emptied with state := l }).fixed = s.fixed :=
    s.setLink_fixed _ _ fun _ => rfl
  unfold State.targetLeavesUp
  simp only [State.drainCheck_fixed]
  split
  · simp only [State.takeReport_fixed, State.answerAll_fixed, State.wake_fixed, State.freeEntriesOf_fixed]
    exact h
  · simp only [State.answerAll_fixed, State.wake_fixed, State.freeEntriesOf_fixed]
    exact h

@[simp] theorem State.leavesUp_fixed (s : State) (p : Port) (l : LinkState) : (s.leavesUp p l).fixed = s.fixed := by
  cases p
  · exact s.hostLeavesUp_fixed _ _
  · exact s.targetLeavesUp_fixed _ _

@[simp] theorem State.report_fixed (s : State) (rs : List Report) : (s.report rs).fixed = s.fixed := by
  induction rs generalizing s with
  | nil => rfl
  | cons r rs ih =>
    unfold State.report
    simp only
    split
    · rw [State.leavesUp_fixed, ih, State.takeReport_fixed]
    · rw [ih, State.takeReport_fixed]

@[simp] theorem State.closeLink_fixed (s : State) (p : Port) (l : LinkState) :
    (s.setLink p fun u => u.closed l).fixed = s.fixed := s.setLink_fixed p _ fun _ => rfl

@[simp] theorem State.endIsolatedWait_fixed (s : State) (h : HPort) :
    (s.setHost h fun x => { x with isolatedWaits := false }).fixed = s.fixed := s.setHost_fixed h _ fun _ => ⟨rfl, rfl⟩

@[simp] theorem State.takeDown_fixed (s : State) (p : Port) (l : LinkState) : (s.takeDown p l).fixed = s.fixed := by
  have h : (if (s.link p).state = .up then s.leavesUp p l else s).fixed = s.fixed := by
    split
    · exact s.leavesUp_fixed _ _
    · rfl
  unfold State.takeDown
  cases p with
  | host g => simp only [State.discardAnswer_fixed, State.endIsolatedWait_fixed, State.closeLink_fixed, h]
  | target d => simp only [State.wake_fixed, State.closeLink_fixed, h]

@[simp] theorem State.isolate_fixed (s : State) (p : Port) : (s.isolate p).fixed = s.fixed := s.leavesUp_fixed _ _

@[simp] theorem State.requestIsolation_fixed (s : State) (p : Port) : (s.requestIsolation p).fixed = s.fixed := by
  unfold State.requestIsolation; split
  · exact s.isolate_fixed p
  · rfl

/-! ### Admission -/

@[simp] theorem State.removeHead_fixed (s : State) (h : HPort) : (s.removeHead h).fixed = s.fixed := by
  unfold State.removeHead; simp only [State.setHead_fixed, State.popIngress_fixed]

@[simp] theorem State.allocate_fixed (s : State) (h : HPort) (p : Packet) (x : Admitted) (k : EntryKind)
    (e : EntryIx) : (s.allocate h p x k e).fixed = s.fixed := by
  unfold State.allocate; simp only [State.placeTarget_fixed, State.setEntry_fixed]

@[simp] theorem State.admit_fixed (s : State) (h : HPort) (p : Packet) (x : Admitted) :
    (s.admitting h p x).fixed = s.fixed := by
  have k : ∀ u : State, ({ u.removeHead h with
      admission := { (u.removeHead h).admission with pointer := h + 1 } } : State).fixed = u.fixed :=
    fun u => u.removeHead_fixed h
  unfold State.admitting
  simp only [k]
  split
  · exact s.placeTarget_fixed _ _
  · exact s.allocate_fixed _ _ _ _ _
  · rfl

@[simp] theorem State.reportMaybe_fixed (s : State) (f : Option Report) : (s.reportMaybe f).fixed = s.fixed :=
  s.report_fixed _

@[simp] theorem State.answerLocally_fixed (s : State) (h : HPort) (b : Bool) (p : Packet) (f : Option Report) :
    (s.answerLocally h b p f).fixed = s.fixed := by
  unfold State.answerLocally; split
  · rw [State.reportMaybe_fixed, State.removeHead_fixed, State.placeHost_fixed]
  · rfl

@[simp] theorem State.applyDecision_fixed (s : State) (h : HPort) (b : Bool) (p : Packet) (d : Decision) :
    (s.applyDecision h b p d).fixed = s.fixed := by
  cases d with
  | answer a f => exact s.answerLocally_fixed h b a f
  | drop f => exact (State.reportMaybe_fixed _ _).trans (s.removeHead_fixed h)
  | divert => rfl
  | wait r => rfl
  | admitting x => exact s.admit_fixed h p x

@[simp] theorem State.evaluate_fixed (s : State) (h : HPort) (b : Bool) : (s.evaluate h b).fixed = s.fixed := by
  unfold State.evaluate; split
  · rfl
  · exact s.applyDecision_fixed _ _ _ _

@[simp] theorem State.accept_fixed (s : State) (h : HPort) : (s.accept h).fixed = s.fixed := by
  unfold State.accept; split
  · rfl
  · exact s.popIngress_fixed (.host h)

@[simp] theorem State.acceptOne_fixed (s : State) (l : List HPort) : (s.acceptOne l).fixed = s.fixed := by
  unfold State.acceptOne; split
  · split
    · rfl
    · exact s.accept_fixed _
  · rfl

@[simp] theorem State.visit_fixed (s : State) (h : HPort) : (s.visit h).fixed = s.fixed := by
  unfold State.visit; split
  · exact s.evaluate_fixed _ _
  · rfl

theorem State.visits_fixed (s : State) (l : List HPort) : (l.foldl State.visit s).fixed = s.fixed := by
  induction l generalizing s with
  | nil => rfl
  | cons h l ih => rw [List.foldl_cons, ih, State.visit_fixed]

@[simp] theorem State.pass_fixed (s : State) : s.pass.fixed = s.fixed := by
  unfold State.pass; simp only [State.acceptOne_fixed, State.visits_fixed]

@[simp] theorem State.settleIn_fixed (n : Nat) (s : State) : (State.settleIn n s).fixed = s.fixed := by
  induction n generalizing s with
  | zero => rfl
  | succ n ih =>
    unfold State.settleIn; split
    · rw [ih, State.pass_fixed, State.clearWake_fixed]
    · rfl

/-- A step's passes change no setting, no moment and no waiting command. -/
@[simp] theorem State.settle_fixed (s : State) : s.settle.fixed = s.fixed := State.settleIn_fixed 5 s

@[simp] theorem State.evaluateLocal_fixed (s : State) (h : HPort) : (s.evaluateLocal h).fixed = s.fixed := by
  unfold State.evaluateLocal
  rw [State.acceptOne_fixed, State.evaluate_fixed]
  exact State.setHost_fixed _ _ _ fun _ => ⟨rfl, rfl⟩

/-- The access-complete event changes no setting of its own. -/
@[simp] theorem State.completeAccess_fixed (s : State) (a : Access) (p : Option Packet) :
    (s.completeAccess a p).fixed = s.fixed := by
  unfold State.completeAccess; rw [State.freeUnit_fixed, State.presentAnswer_fixed]

end Sys2Proof.Machine
end

