-- ==== Sys2Proof/Laws/Pass.lean ====
section
/-! SUPPORT. What the passes of a step leave alone: the banks, the commit engine, every target port's state, the attempt
counts and training timers. A pass reports only faults that name a host port or a target port that is not UP, so
no purge follows from one (R111). -/

namespace Sys2Proof.Machine

/-- The part of the state that admission never changes. -/
structure Backdrop where
  banks : Banks
  commit : CommitEngine
  targetState : DPort → LinkState
  attempts : Port → Nat
  tTrn : Port → Option Nat

/-- The part of a state that admission never changes. -/
def State.backdrop (s : State) : Backdrop :=
  { banks := s.banks, commit := s.commit, targetState := fun d => s.targets[d].link.state,
    attempts := fun p => (s.link p).attempts, tTrn := fun p => (s.link p).tTrn }

/-- A host port unit keeps its attempt count and its training timer. -/
def HostPort.SameTraining (x y : HostPort) : Prop :=
  y.link.attempts = x.link.attempts ∧ y.link.tTrn = x.link.tTrn

/-- A target port unit keeps its state, its attempt count and its training timer. -/
def TargetPort.SameTraining (x y : TargetPort) : Prop :=
  y.link.state = x.link.state ∧ y.link.attempts = x.link.attempts ∧ y.link.tTrn = x.link.tTrn

theorem HostPort.SameTraining.refl (x : HostPort) : HostPort.SameTraining x x := ⟨rfl, rfl⟩
theorem TargetPort.SameTraining.refl (x : TargetPort) : TargetPort.SameTraining x x := ⟨rfl, rfl, rfl⟩

/-- Equality of the backdrop from its parts. -/
theorem State.backdrop_of_ports {s t : State} (hh : ∀ h : HPort, HostPort.SameTraining s.hosts[h] t.hosts[h])
    (hd : ∀ d : DPort, TargetPort.SameTraining s.targets[d] t.targets[d]) (hb : t.banks = s.banks)
    (hc : t.commit = s.commit) : t.backdrop = s.backdrop := by
  simp only [State.backdrop, Backdrop.mk.injEq]
  refine ⟨hb, hc, ?_, ?_, ?_⟩
  · funext d; exact (hd d).1
  · funext p
    cases p with
    | host h => exact (hh h).1
    | target d => exact (hd d).2.1
  · funext p
    cases p with
    | host h => exact (hh h).2
    | target d => exact (hd d).2.2

theorem State.setHost_backdrop (s : State) (h : HPort) (f : HostPort → HostPort)
    (hf : ∀ x, HostPort.SameTraining x (f x)) : (s.setHost h f).backdrop = s.backdrop := by
  apply State.backdrop_of_ports
  · intro g
    by_cases e : g = h
    · subst e; exact (State.setHost_self s g f).symm ▸ hf _
    · rw [show (s.setHost h f).hosts[g] = s.hosts[g] from State.setHost_other s h g f e]; exact .refl _
  · intro d; exact .refl _
  · rfl
  · rfl

theorem State.setTarget_backdrop (s : State) (d : DPort) (f : TargetPort → TargetPort)
    (hf : ∀ x, TargetPort.SameTraining x (f x)) : (s.setTarget d f).backdrop = s.backdrop := by
  apply State.backdrop_of_ports
  · intro h; exact .refl _
  · intro c
    by_cases e : c = d
    · subst e; exact (State.setTarget_self s c f).symm ▸ hf _
    · rw [show (s.setTarget d f).targets[c] = s.targets[c] from State.setTarget_other s d c f e]; exact .refl _
  · rfl
  · rfl

theorem State.setLink_backdrop (s : State) (p : Port) (f : PortUnit → PortUnit)
    (hf : ∀ u, (f u).state = u.state ∧ (f u).attempts = u.attempts ∧ (f u).tTrn = u.tTrn) :
    (s.setLink p f).backdrop = s.backdrop := by
  cases p with
  | host h => exact State.setHost_backdrop s h _ fun x => ⟨(hf x.link).2.1, (hf x.link).2.2⟩
  | target d => exact State.setTarget_backdrop s d _ fun x => hf x.link

@[simp] theorem State.setEntry_backdrop (s : State) (e : EntryIx) (f : Entry → Entry) :
    (s.setEntry e f).backdrop = s.backdrop := rfl
@[simp] theorem State.setHead_backdrop (s : State) (h : HPort) (c : HeadCondition) :
    (s.setHead h c).backdrop = s.backdrop := rfl
@[simp] theorem State.wake_backdrop (s : State) : s.wake.backdrop = s.backdrop := rfl
@[simp] theorem State.clearWake_backdrop (s : State) : s.clearWake.backdrop = s.backdrop := rfl
@[simp] theorem State.popIngress_backdrop (s : State) (p : Port) : (s.popIngress p).backdrop = s.backdrop :=
  s.setLink_backdrop p _ fun _ => ⟨rfl, rfl, rfl⟩
@[simp] theorem State.placeTarget_backdrop (s : State) (d : DPort) (p : Packet) :
    (s.placeTarget d p).backdrop = s.backdrop := s.setLink_backdrop (.target d) _ fun _ => ⟨rfl, rfl, rfl⟩
@[simp] theorem State.placeHost_backdrop (s : State) (h : HPort) (c : EgressClass) (p : Packet) :
    (s.placeHost h c p).backdrop = s.backdrop := s.setHost_backdrop h _ fun _ => ⟨rfl, rfl⟩
@[simp] theorem State.setResult_backdrop (s : State) (c : Byte) (o : CommandOutcome) :
    (s.setResult c o).backdrop = s.backdrop := rfl
@[simp] theorem State.clearAnswer_backdrop (s : State) (h : HPort) : (s.clearAnswer h).backdrop = s.backdrop := rfl
@[simp] theorem State.emptyLatch_backdrop (s : State) (h : HPort) : (s.emptyLatch h).backdrop = s.backdrop := rfl
@[simp] theorem State.queueRecord_backdrop (s : State) (f : FaultRecord) :
    (s.queueRecord f).backdrop = s.backdrop := rfl
@[simp] theorem State.orphan_backdrop (s : State) (h : HPort) : (s.orphan h).backdrop = s.backdrop := by
  apply State.backdrop_of_ports <;> intros <;> simp [HostPort.SameTraining, TargetPort.SameTraining]
@[simp] theorem State.withdrawWaiting_backdrop (s : State) (h : HPort) :
    (s.withdrawWaiting h).backdrop = s.backdrop := by
  apply State.backdrop_of_ports
  · intro g; exact .refl _
  · intro d
    simp only [State.withdrawWaiting, Fin.getElem_fin, Vector.getElem_ofFn]
    split <;> exact .refl _
  · rfl
  · rfl

@[simp] theorem State.placeTracker_backdrop (s : State) (h : HPort) : (s.placeTracker h).backdrop = s.backdrop := by
  unfold State.placeTracker
  split
  · split
    · rfl
    · rw [State.popIngress_backdrop]; exact s.placeHost_backdrop h _ _
    · rw [State.wake_backdrop]; exact s.placeHost_backdrop h _ _
  · rfl

@[simp] theorem State.sendNotification_backdrop (s : State) : s.sendNotification.backdrop = s.backdrop := by
  unfold State.sendNotification
  split
  · split
    · rfl
    · exact s.placeHost_backdrop _ _ _
  · rfl

@[simp] theorem State.placeCopy_backdrop (s : State) : s.placeCopy.backdrop = s.backdrop := by
  unfold State.placeCopy
  split
  · rfl
  · split
    · exact s.placeHost_backdrop _ _ _
    · rfl

@[simp] theorem State.presentCopy_backdrop (s : State) : s.presentCopy.backdrop = s.backdrop := by
  unfold State.presentCopy
  split
  · rfl
  · split
    · rw [State.placeCopy_backdrop]; rfl
    · rfl

@[simp] theorem State.appendItem_backdrop (s : State) (i : PendingItem) :
    (s.appendItem i).backdrop = s.backdrop := by
  unfold State.appendItem; rw [State.sendNotification_backdrop]; rfl

@[simp] theorem State.notice_backdrop (s : State) (k : FaultKind) (p : Port) (q : Seq) :
    (s.notice k p q).backdrop = s.backdrop := by
  unfold State.notice; split
  · exact s.appendItem_backdrop _
  · rfl

@[simp] theorem State.snapAndNotice_backdrop (s : State) (f : FaultRecord) (c : Option HeaderCapture) :
    (s.snapAndNotice f c).backdrop = s.backdrop := by
  unfold State.snapAndNotice; rw [State.notice_backdrop]; rfl

/-- A port that no fault of admission can purge: a host port, or a target port that is not UP. -/
def State.notUpTarget (s : State) : Port → Prop
  | .host _ => True
  | .target d => s.targetUp d = false

/-- An isolation request for a target port that is not UP has no effect (R37). -/
theorem State.reportOutcome_quiet {s : State} {r : Report} {d : DPort} (hr : r.port = .target d)
    (hd : s.targetUp d = false) : s.reportOutcome r = .noEffect := by
  unfold State.reportOutcome State.judgeIsolation
  have : (s.link r.port).state ≠ .up := by
    rw [hr]; intro h
    simp only [State.targetUp, beq_eq_false_iff_ne, ne_eq, Fin.getElem_fin] at hd
    exact hd h
  simp [this]

theorem State.takeReport_backdrop (s : State) (r : Report) (hr : s.notUpTarget r.port) :
    (s.takeReport r).backdrop = s.backdrop := by
  have h : (if s.reportOutcome r = .carriedOut then s.setLink r.port fun u => { u with state := .isolated }
      else s).backdrop = s.backdrop := by
    cases hp : r.port with
    | host g =>
      split
      · exact State.setHost_backdrop s g _ fun _ => ⟨rfl, rfl⟩
      · rfl
    | target d =>
      rw [hp] at hr
      rw [State.reportOutcome_quiet hp hr]; simp
  unfold State.takeReport
  simp only
  split <;> simp only [State.queueRecord_backdrop, State.snapAndNotice_backdrop, h]

@[simp] theorem State.leaveHeld_backdrop (s : State) (h : HPort) : (s.leaveHeld h).backdrop = s.backdrop := by
  unfold State.leaveHeld; split <;> rfl

@[simp] theorem State.freeUnit_backdrop (s : State) (h : HPort) : (s.freeUnit h).backdrop = s.backdrop := by
  unfold State.freeUnit; rw [State.wake_backdrop, State.leaveHeld_backdrop]; rfl

@[simp] theorem State.completeSelf_backdrop (s : State) (a : Access) (x : Option SelfAction) :
    (s.completeSelf a x).backdrop = s.backdrop := by
  unfold State.completeSelf; rw [State.freeUnit_backdrop]; split <;> rfl

@[simp] theorem State.answerGone_backdrop (s : State) (h : HPort) : (s.answerGone h).backdrop = s.backdrop := by
  unfold State.answerGone
  split
  · split
    · exact s.completeSelf_backdrop _ _
    · rfl
  · rfl

@[simp] theorem State.enterAnswer_backdrop (s : State) (h : HPort) : (s.enterAnswer h).backdrop = s.backdrop := by
  unfold State.enterAnswer
  split
  · rfl
  · split
    · rw [State.answerGone_backdrop, State.wake_backdrop, State.clearAnswer_backdrop, State.placeHost_backdrop]
    · rfl

@[simp] theorem State.discardAnswer_backdrop (s : State) (h : HPort) :
    (s.discardAnswer h).backdrop = s.backdrop := by
  unfold State.discardAnswer
  split
  · rfl
  · rw [State.answerGone_backdrop, State.clearAnswer_backdrop]

@[simp] theorem State.presentAnswer_backdrop (s : State) (h : HPort) (p : Option Packet) :
    (s.presentAnswer h p).backdrop = s.backdrop := by
  unfold State.presentAnswer
  split
  · rfl
  · split
    · rw [State.enterAnswer_backdrop]; rfl
    · rfl

@[simp] theorem State.completeAccess_backdrop (s : State) (a : Access) (p : Option Packet) :
    (s.completeAccess a p).backdrop = s.backdrop := by
  unfold State.completeAccess; rw [State.freeUnit_backdrop, State.presentAnswer_backdrop]

@[simp] theorem State.withdrawCopy_backdrop (s : State) (h : HPort) : (s.withdrawCopy h).backdrop = s.backdrop := by
  unfold State.withdrawCopy; split <;> rfl

/-- A host port that leaves UP purges nothing: its entries run on (R159). -/
@[simp] theorem State.hostLeavesUp_backdrop (s : State) (h : HPort) (l : LinkState) :
    (s.hostLeavesUp h l).backdrop = s.backdrop := by
  have k : ∀ u : State, (if u.losesAnswer h l then u.discardAnswer h else u).backdrop = u.backdrop := fun u => by
    split
    · exact u.discardAnswer_backdrop h
    · rfl
  unfold State.hostLeavesUp
  simp only [k, State.wake_backdrop, State.withdrawCopy_backdrop, State.emptyLatch_backdrop, State.orphan_backdrop,
    State.withdrawWaiting_backdrop, State.setHead_backdrop]
  exact s.setHost_backdrop h _ fun _ => ⟨rfl, rfl⟩

/-- One report that names a host port or a target port out of UP leaves the backdrop alone. -/
theorem State.report_one_backdrop (s : State) (r : Report) (hr : s.notUpTarget r.port) :
    (s.report [r]).backdrop = s.backdrop := by
  unfold State.report State.report
  simp only
  cases hp : r.port with
  | host g =>
    split
    · exact (State.hostLeavesUp_backdrop _ g _).trans (s.takeReport_backdrop r hr)
    · exact s.takeReport_backdrop r hr
  | target d =>
    have hd : s.targetUp d = false := by rw [hp] at hr; exact hr
    rw [State.reportOutcome_quiet hp hd]
    exact s.takeReport_backdrop r hr

theorem State.targetUp_of_backdrop {s t : State} (h : t.backdrop = s.backdrop) (d : DPort) :
    t.targetUp d = s.targetUp d := by
  have := congrFun (congrArg Backdrop.targetState h) d
  simp only [State.backdrop] at this
  simp only [State.targetUp, this]

theorem State.notUpTarget_of_backdrop {s t : State} (h : t.backdrop = s.backdrop) (p : Port) :
    t.notUpTarget p ↔ s.notUpTarget p := by
  cases p with
  | host g => exact Iff.rfl
  | target d => simp only [State.notUpTarget, State.targetUp_of_backdrop h]

/-! ### Admission -/

@[simp] theorem State.removeHead_backdrop (s : State) (h : HPort) : (s.removeHead h).backdrop = s.backdrop := by
  unfold State.removeHead; simp only [State.setHead_backdrop, State.popIngress_backdrop]

@[simp] theorem State.allocate_backdrop (s : State) (h : HPort) (p : Packet) (x : Admitted) (k : EntryKind)
    (e : EntryIx) : (s.allocate h p x k e).backdrop = s.backdrop := by
  unfold State.allocate; simp only [State.placeTarget_backdrop, State.setEntry_backdrop]

@[simp] theorem State.admit_backdrop (s : State) (h : HPort) (p : Packet) (x : Admitted) :
    (s.admitting h p x).backdrop = s.backdrop := by
  have k : ∀ u : State, ({ u.removeHead h with
      admission := { (u.removeHead h).admission with pointer := h + 1 } } : State).backdrop = u.backdrop :=
    fun u => u.removeHead_backdrop h
  unfold State.admitting
  simp only [k]
  split
  · exact s.placeTarget_backdrop _ _
  · exact s.allocate_backdrop _ _ _ _ _
  · rfl

/-- The fault of a decision. -/
def Decision.fault : Decision → Option Report
  | .answer _ f => f
  | .drop f => f
  | _ => none

/-- The fault of a decision names the arrival port, or a target port that is not UP (R110). -/
theorem State.decideHead_fault (s : State) (h : HPort) (p : Packet) (r : Report)
    (hr : (s.decideHead h p).fault = some r) : s.notUpTarget r.port := by
  have hrefuse : ∀ (st : Status) (f : Report), (refuse p st f).fault = some f := fun st f => by
    unfold refuse; split <;> rfl
  have key : r.port = .host h ∨ ∃ d, r.port = .target d ∧ s.targetUp d = false := by
    revert hr
    unfold State.decideHead
    split
    · rw [hrefuse]; intro e; cases e; exact .inl rfl
    · split
      · split
        · simp [Decision.fault]
        · rw [hrefuse]; intro e; cases e; exact .inl rfl
      · split
        · simp [Decision.fault]
        · unfold State.decideClassified
          split
          · simp [Decision.fault]
          · rw [hrefuse]; intro e; cases e; exact .inl rfl
          · rw [hrefuse]; intro e; cases e; exact .inl rfl
          · unfold discardAnswerOf; split <;> simp [Decision.fault]
          · rename_i w d _ _ _ _
            split
            · unfold State.decideRouted
              split
              · split <;> simp [Decision.fault]
              · split
                · intro e; cases e; exact .inl rfl
                · split <;> simp [Decision.fault]
            · rename_i hd
              rw [hrefuse]; intro e; cases e
              exact .inr ⟨d, rfl, by simpa using hd⟩
  rcases key with e | ⟨d, e, hd⟩
  · rw [e]; exact trivial
  · rw [e]; exact hd

theorem State.reportMaybe_backdrop (s : State) (f : Option Report) (hf : ∀ r, f = some r → s.notUpTarget r.port) :
    (s.reportMaybe f).backdrop = s.backdrop := by
  cases f with
  | none => rfl
  | some r => exact s.report_one_backdrop r (hf r rfl)

theorem State.applyDecision_backdrop (s : State) (h : HPort) (b : Bool) (p : Packet) (d : Decision)
    (hd : ∀ r, d.fault = some r → s.notUpTarget r.port) : (s.applyDecision h b p d).backdrop = s.backdrop := by
  cases d with
  | answer a f =>
    unfold State.applyDecision State.answerLocally
    simp only
    split
    · have e : ((s.placeHost h .localAnswer a).removeHead h).backdrop = s.backdrop := by simp
      exact (State.reportMaybe_backdrop _ f fun r hr => (State.notUpTarget_of_backdrop e _).2 (hd r hr)).trans e
    · rfl
  | drop f =>
    have e : (s.removeHead h).backdrop = s.backdrop := by simp
    exact (State.reportMaybe_backdrop _ _ fun r hr => (State.notUpTarget_of_backdrop e _).2 (hd r hr)).trans e
  | divert => rfl
  | wait r => rfl
  | admitting x => exact s.admit_backdrop h p x

@[simp] theorem State.evaluate_backdrop (s : State) (h : HPort) (b : Bool) :
    (s.evaluate h b).backdrop = s.backdrop := by
  unfold State.evaluate; split
  · rfl
  · exact s.applyDecision_backdrop _ _ _ _ fun r hr => s.decideHead_fault _ _ r hr

@[simp] theorem State.accept_backdrop (s : State) (h : HPort) : (s.accept h).backdrop = s.backdrop := by
  unfold State.accept; split
  · rfl
  · exact s.popIngress_backdrop (.host h)

@[simp] theorem State.acceptOne_backdrop (s : State) (l : List HPort) : (s.acceptOne l).backdrop = s.backdrop := by
  unfold State.acceptOne; split
  · split
    · rfl
    · exact s.accept_backdrop _
  · rfl

@[simp] theorem State.visit_backdrop (s : State) (h : HPort) : (s.visit h).backdrop = s.backdrop := by
  unfold State.visit; split
  · exact s.evaluate_backdrop _ _
  · rfl

theorem State.visits_backdrop (s : State) (l : List HPort) : (l.foldl State.visit s).backdrop = s.backdrop := by
  induction l generalizing s with
  | nil => rfl
  | cons h l ih => rw [List.foldl_cons, ih, State.visit_backdrop]

@[simp] theorem State.pass_backdrop (s : State) : s.pass.backdrop = s.backdrop := by
  unfold State.pass; simp only [State.acceptOne_backdrop, State.visits_backdrop]

@[simp] theorem State.settleIn_backdrop (n : Nat) (s : State) : (State.settleIn n s).backdrop = s.backdrop := by
  induction n generalizing s with
  | zero => rfl
  | succ n ih =>
    unfold State.settleIn; split
    · rw [ih, State.pass_backdrop, State.clearWake_backdrop]
    · rfl

/-- A step's passes change no bank, no commit engine, no target port's state and no training. -/
@[simp] theorem State.settle_backdrop (s : State) : s.settle.backdrop = s.backdrop := State.settleIn_backdrop 5 s

@[simp] theorem State.settle_banks (s : State) : s.settle.banks = s.banks := congrArg Backdrop.banks s.settle_backdrop
@[simp] theorem State.settle_commit (s : State) : s.settle.commit = s.commit :=
  congrArg Backdrop.commit s.settle_backdrop

/-- With no pass due, the end of a step changes nothing. -/
theorem State.settle_of_not_due (s : State) (h : s.admission.passDue = false) : s.settle = s := by
  simp [State.settle, State.settleIn, h]

/-- The end of a step leaves no pass due. -/
theorem State.settleIn_passDue (n : Nat) (s : State) : (State.settleIn n s).admission.passDue = false := by
  induction n generalizing s with
  | zero => rfl
  | succ n ih =>
    unfold State.settleIn; split
    · exact ih _
    · rename_i h; simpa using h

end Sys2Proof.Machine
end

