-- ==== Sys2Proof/Laws/Command.lean ====
section
/-! SUPPORT. What the end of an aperture access does, and which access each step of the table ends: the operations that the
register writes and the commands share. -/

namespace Sys2Proof.Machine

/-! ## The access a step ends (R117, R196, R199) -/

/-- Where the unit executes an access that a step ends, the step finds it. -/
theorem State.accessFor_of_executes {s : State} {a : Access} {c : Instr} (h : s.executes a c) :
    s.accessFor c = some a := by
  simp [State.accessFor, h.1, h.2]

/-- The commands written to the command word. -/
def commandInstrs : List Instr :=
  [.commit, .reseedStaging, .portEnable, .portDisable, .portReset, .portIsolate, .portRestore, .portRetrain,
   .faultPop, .snapshotRelease, .channelRearm, .bridgeReset, .unknownCommand]

/-- An access that a command ends is a well-formed write whose command code names that command. -/
theorem Access.step_command {a : Access} {i : Instr} (h : a.step = i) (hi : i ∈ commandInstrs) :
    a.malformed = false ∧ a.isRead = false ∧ commandStep a.commandCode = i := by
  unfold commandInstrs at hi
  unfold Access.step at h
  cases hm : a.malformed
  · cases hr : a.isRead
    · simp only [hm, hr] at h
      refine ⟨rfl, rfl, ?_⟩
      unfold writeStep at h
      cases hreg : a.reg <;> simp only [hreg] at h <;> first | exact h | (simp at h; subst h; simp at hi)
    · simp [hm, hr] at h; subst h; simp at hi
  · simp [hm] at h; subst h; simp at hi

/-! The code each command carries (R205). -/

theorem commandStep_commit : ∀ c : Byte, commandStep c = .commit → c = 0x1 := by decide
theorem commandStep_reseedStaging : ∀ c : Byte, commandStep c = .reseedStaging → c = 0x2 := by decide
theorem commandStep_portEnable : ∀ c : Byte, commandStep c = .portEnable → c = 0x10 := by decide
theorem commandStep_portDisable : ∀ c : Byte, commandStep c = .portDisable → c = 0x11 := by decide
theorem commandStep_portReset : ∀ c : Byte, commandStep c = .portReset → c = 0x12 := by decide
theorem commandStep_portIsolate : ∀ c : Byte, commandStep c = .portIsolate → c = 0x13 := by decide
theorem commandStep_portRestore : ∀ c : Byte, commandStep c = .portRestore → c = 0x14 := by decide
theorem commandStep_portRetrain : ∀ c : Byte, commandStep c = .portRetrain → c = 0x15 := by decide
theorem commandStep_faultPop : ∀ c : Byte, commandStep c = .faultPop → c = 0x20 := by decide
theorem commandStep_snapshotRelease : ∀ c : Byte, commandStep c = .snapshotRelease → c = 0x21 := by decide
theorem commandStep_channelRearm : ∀ c : Byte, commandStep c = .channelRearm → c = 0x30 := by decide
theorem commandStep_bridgeReset : ∀ c : Byte, commandStep c = .bridgeReset → c = 0x3f := by decide

theorem Access.code_commit {a : Access} (h : a.step = .commit) : a.commandCode = 0x1 :=
  commandStep_commit _ (Access.step_command h (by simp [commandInstrs])).2.2
theorem Access.code_reseedStaging {a : Access} (h : a.step = .reseedStaging) : a.commandCode = 0x2 :=
  commandStep_reseedStaging _ (Access.step_command h (by simp [commandInstrs])).2.2
theorem Access.code_portEnable {a : Access} (h : a.step = .portEnable) : a.commandCode = 0x10 :=
  commandStep_portEnable _ (Access.step_command h (by simp [commandInstrs])).2.2
theorem Access.code_portDisable {a : Access} (h : a.step = .portDisable) : a.commandCode = 0x11 :=
  commandStep_portDisable _ (Access.step_command h (by simp [commandInstrs])).2.2
theorem Access.code_portReset {a : Access} (h : a.step = .portReset) : a.commandCode = 0x12 :=
  commandStep_portReset _ (Access.step_command h (by simp [commandInstrs])).2.2
theorem Access.code_portIsolate {a : Access} (h : a.step = .portIsolate) : a.commandCode = 0x13 :=
  commandStep_portIsolate _ (Access.step_command h (by simp [commandInstrs])).2.2
theorem Access.code_portRestore {a : Access} (h : a.step = .portRestore) : a.commandCode = 0x14 :=
  commandStep_portRestore _ (Access.step_command h (by simp [commandInstrs])).2.2
theorem Access.code_portRetrain {a : Access} (h : a.step = .portRetrain) : a.commandCode = 0x15 :=
  commandStep_portRetrain _ (Access.step_command h (by simp [commandInstrs])).2.2
theorem Access.code_faultPop {a : Access} (h : a.step = .faultPop) : a.commandCode = 0x20 :=
  commandStep_faultPop _ (Access.step_command h (by simp [commandInstrs])).2.2
theorem Access.code_snapshotRelease {a : Access} (h : a.step = .snapshotRelease) : a.commandCode = 0x21 :=
  commandStep_snapshotRelease _ (Access.step_command h (by simp [commandInstrs])).2.2
theorem Access.code_channelRearm {a : Access} (h : a.step = .channelRearm) : a.commandCode = 0x30 :=
  commandStep_channelRearm _ (Access.step_command h (by simp [commandInstrs])).2.2
theorem Access.code_bridgeReset {a : Access} (h : a.step = .bridgeReset) : a.commandCode = 0x3f :=
  commandStep_bridgeReset _ (Access.step_command h (by simp [commandInstrs])).2.2

/-! ## The answer's entering (R30, R31, R117) -/

/-- Whether R31 gives a class room does not depend on the management unit's result, unit or action, nor, for the class
MANAGEMENT, on the waiting answers. -/
theorem State.givesRoom_management (s : State) (h g : HPort) (r : CommandResult) (u : MgmtUnit) (p : Option Packet) :
    State.givesRoom { s with mgmt := { s.mgmt with result := r, unit := u, answers := s.mgmt.answers.set g p } } h .management
      = s.givesRoom h .management := by
  unfold State.givesRoom State.hostHasRoom
  congr 2
  apply List.find?_congr
  intro x _
  cases x <;> simp [State.classWaits, State.sendWaits, State.hostUp]

theorem LinkState.carries_iff (l : LinkState) : l.carries = true ↔ l = .up ∨ l = .isolated := by
  cases l <;> decide

theorem Packet.posted_iff (p : Packet) : p.posted = true ↔ p.kind = some .wpq := by simp [Packet.posted]

/-- A command of R200 or R201 that is posted, or whose port carries no packets, completes at once. -/
theorem State.beginSelf_at_once {s : State} {a : Access} {st : Status} {x : Option SelfAction}
    (h : a.packet.kind = some .wpq ∨ ¬ s.hosts[a.port].link.state.carries = true) :
    s.beginSelf a st x = s.completeSelf a x := by
  unfold State.beginSelf Access.statusAnswer
  split
  · rename_i h'
    split at h'
    · cases h'
    · rename_i h2
      rcases h with h | h
      · exact absurd ((Packet.posted_iff _).2 h) h2
      · rw [if_neg h]
  · rfl

/-- The state while the answer of a command of R200 or R201 waits. -/
def State.awaiting (s : State) (a : Access) (st : Status) (x : Option SelfAction) : State :=
  { s with mgmt := { s.mgmt with
      unit := .answering a x, answers := s.mgmt.answers.set a.port (some (cpsPacket a.packet.tag st)) } }

/-- Any other command of R200 or R201: its answer enters first where R31 gives room, else it waits. -/
theorem State.beginSelf_answered {s : State} {a : Access} {st : Status} {x : Option SelfAction}
    (h : a.packet.kind ≠ some .wpq) (h2 : s.hosts[a.port].link.state.carries = true) :
    s.beginSelf a st x =
      if s.givesRoom a.port .management then
        ((((s.awaiting a st x).placeHost a.port .management (cpsPacket a.packet.tag st)).clearAnswer
          a.port).wake).completeSelf a x
      else s.awaiting a st x := by
  unfold State.beginSelf Access.statusAnswer
  rw [if_neg (by simpa [Packet.posted] using h)]
  simp only [h2, if_true]
  unfold State.presentAnswer
  have h3 : s.hosts[(a.port).val].link.state.carries = true := h2
  simp only [Fin.getElem_fin, h3, if_true]
  unfold State.enterAnswer
  have k := State.givesRoom_management s a.port a.port s.mgmt.result (.answering a x) (some (cpsPacket a.packet.tag st))
  simp only [Fin.getElem_fin, Vector.getElem_set_self]
  rw [k]
  split
  · unfold State.answerGone
    simp [State.clearAnswer, State.awaiting]
  · rfl

/-- A command on the requester's own port that is posted, or whose port carries no packets: the access completes at once
and the action, if it was taken, is due. -/
theorem endOwnCommand_at_once {s : State} {a : Access} {o : CommandOutcome} {x : Option SelfAction}
    (h : a.packet.kind = some .wpq ∨ ¬ s.hosts[a.port].link.state.carries = true) :
    endOwnCommand s a o x = .next ((s.setResult a.commandCode o).completeSelf a x).settle := by
  unfold endOwnCommand settled
  rw [State.beginSelf_at_once (s := s.setResult a.commandCode o) h]

/-! ## Ports -/

@[simp] theorem State.link_setLink (s : State) (p : Port) (f : PortUnit → PortUnit) :
    (s.setLink p f).link p = f (s.link p) := by
  cases p <;> simp [State.link, State.setLink, State.setHost, State.setTarget]

@[simp] theorem State.link_wakeTarget (s : State) (p q : Port) : (s.wakeTarget p).link q = s.link q := by
  cases p <;> cases q <;> rfl

theorem State.link_setLink_of_ne (s : State) {p q : Port} (h : q ≠ p) (f : PortUnit → PortUnit) :
    (s.setLink p f).link q = s.link q := by
  cases p <;> cases q <;> simp [State.link, State.setLink, State.setHost, State.setTarget]
  · rename_i a b
    rw [Vector.getElem_set_ne]; simp at h; intro h'; exact h (Fin.ext h'.symm)
  · rename_i a b
    rw [Vector.getElem_set_ne]; simp at h; intro h'; exact h (Fin.ext h'.symm)

/-! ## The commit engine and the channel -/

/-- With no drain running an entry's leaving flight swaps nothing (R89). -/
theorem State.drainCheck_of_not_draining (s : State) (h : s.commit.engine ≠ .draining) : s.drainCheck = s := by
  unfold State.drainCheck; rw [if_neg]; simp [h]

/-- A copy of the outstanding notification is presented to a supervisor port in UP (R188). -/
theorem State.presentCopy_of_up {s : State} {o : Outstanding} (h : s.notifier.outstanding = some o)
    (h2 : s.hostUp s.mgmt.supervisor = true) :
    s.presentCopy = ({ s with notifier := { s.notifier with copy := some o.packet } } : State).placeCopy := by
  simp [State.presentCopy, h, h2]

end Sys2Proof.Machine
end

