-- ==== Sys2Proof/Tests/Slice0.lean ====
section
/-! SUPPORT. Named checks of the model on small states: the spec's worked examples, one step of each family of commands,
and, for every statement that has hypotheses, a state and operands that meet them (the theorems named `witness_…`). -/

set_option Elab.async false

namespace Sys2Proof.Tests

open Sys2Proof Sys2Proof.Machine

/-! ## Well-formedness (R1) -/

theorem test_packet_of_19_bytes_refused :
    (Instr.linkPacketArrival (.host 0) (List.replicate 19 0)).wellFormed = false := by decide

theorem test_packet_of_277_bytes_refused :
    (Instr.linkPacketArrival (.host 0) (List.replicate 277 0)).wellFormed = false := by
  decide +kernel

theorem test_packets_of_20_and_276_bytes_accepted :
    (Instr.linkPacketArrival (.host 0) (List.replicate 20 0)).wellFormed = true ∧
      (Instr.linkPacketArrival (.target 5) (List.replicate 276 0)).wellFormed = true := by
  decide +kernel

/-- No row of the table gives bits. -/
theorem test_no_word_spells_a_command : decodeTableWord 8 1 = none := rfl

/-! ## Chapter 1 -/

/-- R10: the check over the ASCII digits 1 to 9. -/
theorem test_crc_of_the_nine_digits :
    crc32 [0x31, 0x32, 0x33, 0x34, 0x35, 0x36, 0x37, 0x38, 0x39] = 0xCBF43926#32 := by decide +kernel

/-! ## Chapter 4: the worked addresses of section 4.8 -/

def groupG1 : Group :=
  { valid := true, memberCount := 4, member0 := 2, member1 := 0, member2 := 5, member3 := 3, granuleCode := 1,
    compaction := true }

def windowW12 : Window :=
  { valid := true, base := 0x1000, limit := 0x103F, destKind := 1, group := 1, translationBase := 0x200 }

theorem test_compacted_group_members :
    ([0x00100000000, 0x00100001080, 0x00100003FF8, 0x00100004000, 0x00100126A40, 0x00103FFFF00] : List Addr).map
      (windowW12.target groupG1) = [2, 0, 3, 2, 5, 3] := by decide +kernel

theorem test_compacted_group_addresses :
    ([0x00100000000, 0x00100001080, 0x00100003FF8, 0x00100004000, 0x00100126A40, 0x00103FFFF00] : List Addr).map
      (windowW12.translate groupG1) =
    [0x00020000000, 0x00020000080, 0x00020000FF8, 0x00020001000, 0x00020049A40, 0x00020FFFF00] := by decide +kernel

def groupG3 : Group := { valid := true, memberCount := 2, member0 := 1, member1 := 4, granuleCode := 2 }

def windowW20 : Window :=
  { valid := true, base := 0x2000, limit := 0x2001, level := 1, destKind := 1, group := 3, translationBase := 0x40,
    convert := true }

theorem test_uncompacted_group :
    ([0x00200000000, 0x00200010000, 0x0020002FF00, 0x00200134500, 0x002001FFFF0] : List Addr).map
      (fun a => (windowW20.target groupG3 a, windowW20.translate groupG3 a)) =
    [(1, 0x00004000000), (4, 0x00004010000), (1, 0x0000402FF00), (4, 0x00004134500), (4, 0x000041FFFF0)] := by
  decide +kernel

/-! ## States for the other checks -/

/-- A request of a host. -/
def request (kind : Kind) (tag : Byte) (a : Addr) (data : List Byte) (len : BitVec 9) : Packet :=
  { kindCode := kind.code, tag := tag, length := len, address := a, payload := data }

/-- W0: the blocks 0x400 to 0x4FF, toward D0, for every host; W1: the block 0x500, DISCARD; W2: the block 0x501, toward
D0, permission NONE; W3: the block 0x502, toward D5. -/
def bank : Bank :=
  { windows := (Vector.replicate 32 {}).set 0
      { valid := true, base := 0x400, limit := 0x4FF, readAllowed := true, writeAllowed := true, hostSet := 0xF,
        translationBase := 0x100 } |>.set 1
      { valid := true, base := 0x500, limit := 0x500, readAllowed := true, writeAllowed := true, hostSet := 0xF,
        destKind := 2 } |>.set 2
      { valid := true, base := 0x501, limit := 0x501, hostSet := 0xF } |>.set 3
      { valid := true, base := 0x502, limit := 0x502, readAllowed := true, hostSet := 0xF, destPort := 5 }
    groups := Vector.replicate 4 {} }

def unit (l : LinkState) (attempts : Nat) (tTrn : Option Nat) (ingress egress : List Packet) : PortUnit :=
  { state := l, attempts := attempts, tTrn := tTrn, ingress := ingress, egress := egress, attemptLimit := 3 }

def host (u : PortUnit) : HostPort :=
  { link := u, classPtr := .localAnswer, isolatedWaits := false, outstandingLimit := 32 }

def target (u : PortUnit) : TargetPort :=
  { link := u, outstandingLimit := 64, timeoutCode := 3, threshold := .degraded, isolateOnFailing := true }

/-- A read that H0 has waiting for admission, and the request of E0 at D0. -/
def read0 : Packet := request .rdq 0x2C 0x00040012345 [] 8
def sentRead : Packet := request .rdq 1 0x00010012340 [] 16
def postedWrite : Packet := request .wpq 0 0x00040000000 [1, 2] 2
def chunk : Packet := { kindCode := 4, tag := 3, length := 8, offset := 8, final := true, payload := [1, 2, 3, 4, 5, 6, 7, 8] }
def alert : Packet :=
  { kindCode := 6, device := 3, severity := 3, length := 8, payload := [0x34, 0x12, 1, 0, 0, 0, 0, 0] }

def e0 : Entry :=
  { state := .waiting, phase := true, host := 0, hostTag := 5, target := 0, address := 0x00010012340, length := 16,
    deadline := some 1000 }
def e1 : Entry :=
  { state := .receiving, phase := true, host := 1, hostTag := 6, target := 1, address := 0x00010012340, length := 16,
    delivered := 8, sent := true, deadline := some 500 }
def e2 : Entry :=
  { state := .quarantined, phase := false, host := 1, hostTag := 7, target := 1, length := 16, sent := true,
    quarantine := some 700 }
def e3 : Entry :=
  { state := .waiting, phase := true, kind := .writeConverted, host := 1, target := 1, length := 4, sent := true,
    absorbed := true, deadline := some 900 }

def notification : Packet := notificationPacket 0x100 4 { kind := .fault .linkLost 2, source := .host 3, repeatCount := 1, sent := true } false

/-- A part at work: H0 and H1 UP, H2 in its third training attempt, H3 ISOLATED; D0 and D1 UP, D2 in its second
attempt, D3 ISOLATED, D4 FAILED, D5 DOWN; entries E0 to E3 held; a notification outstanding. -/
def busy : State :=
  { State.reset with
    hosts := #v[host (unit .up 1 none [read0] []), host (unit .up 1 none [] [cpsPacket 3 .ok]),
      host (unit .training 3 (some 100) [] []), host (unit .isolated 1 none [read0, postedWrite] [])]
    targets := #v[target (unit .up 1 none [alert] [sentRead]), target (unit .up 1 none [chunk] [postedWrite]),
      target (unit .training 2 (some 50) [] []), target (unit .isolated 1 none [chunk] []),
      target (unit .failed 3 none [] []), target (unit .down 0 none [] [])]
    admission := { State.reset.admission with heads := #v[.presented, .noHead, .noHead, .noHead] }
    tracker := { State.reset.tracker with
      ort := (((State.reset.tracker.ort.set 0 e0).set 1 e1).set 2 e2).set 3 e3
      answers := #v[[{ hostTag := 9, status := .expired, target := 2, order := 4 }], [], [], []] }
    banks := { active := bank, staging := bank, generation := 7 }
    notifier := { State.reset.notifier with
      items := [{ kind := .fault .linkLost 2, source := .host 3, repeatCount := 1, sent := true }]
      channel := .awaitingAck
      address := 0x100
      outstanding := some { sequence := 4, packet := notification }
      tRnt := some 300 }
    pending := [.tTrnExpiry (.target 2)] }

/-- The same part with no head at H0 and no answer owed to it. -/
def calm : State :=
  { busy with
    hosts := busy.hosts.set 0 (host (unit .up 1 none [] []))
    admission := State.reset.admission
    tracker := { busy.tracker with answers := Vector.replicate 4 [] } }

/-- The state after a command. -/
def after (c : Instr) (s : State) : State :=
  match exec c s with
  | .next t => t
  | .fault _ => s
  | .refused _ => s

/-- An aperture access of H0 at a word's offset. -/
def writeAt (o v : Nat) : Access := { port := 0, packet := request .waq 7 (BitVec.ofNat 44 (0xFFFFFF * 2 ^ 20 + o)) (leBytes 8 v) 8 }
def readAt (o : Nat) : Access := { port := 0, packet := request .rdq 7 (BitVec.ofNat 44 (0xFFFFFF * 2 ^ 20 + o)) [] 8 }

/-- The state while the management unit executes an access. -/
def accessing (s : State) (a : Access) : State := { s with mgmt := { s.mgmt with unit := .accessing a } }

/-! ## The links (chapters 1 and 2) -/

/-- The example of chapter 2: a target that trains on its third attempt keeps its count. -/
theorem test_third_attempt_succeeds :
    let s := after (.trainingSucceeds (.target 2)) (after (.trainingFails (.target 2)) busy)
    (s.link (.target 2)).state = .up ∧ (s.link (.target 2)).attempts = 3 := by decide +kernel

theorem test_partner_detected_starts_the_first_attempt :
    let s := after (.partnerDetected (.target 5)) busy
    (s.link (.target 5)).state = .training ∧ (s.link (.target 5)).tTrn = some 1900 := by decide +kernel

theorem test_attempt_limit_ends_in_failed :
    let s := after (.tTrnExpiry (.host 2)) busy
    (s.link (.host 2)).state = .failed ∧ s.now = 100 ∧ (s.recorder.queue.map (·.kind)) = [.trainingFailed] := by
  decide +kernel

/-- R158: the purge of D1 holds E1, E2 and E3 and reports them once. -/
theorem test_link_loss_purges_a_target :
    let s := after (.linkLoss (.target 1)) calm
    (s.tracker.ort[1]).state = .free ∧ (s.tracker.ort[3]).state = .free ∧
      s.recorder.queue.map (fun f => (f.kind, f.detail)) = [(.linkLost, .count 3)] ∧
      s.hosts[1].link.egress = [cpsPacket 3 .ok, cpsPacket 6 .unreachable] := by decide +kernel

theorem test_arrival_joins_the_ingress_queue :
    ((after (.linkPacketArrival (.host 1) read0.toBytes) busy).link (.host 1)).ingress = [read0] := by decide +kernel

/-- R10: one changed bit is an integrity error. -/
theorem test_damaged_packet_is_discarded :
    let s := after (.linkPacketArrival (.host 1) (read0.toBytes.set 9 0xFF)) busy
    s.hosts[1].link.ingress = [] ∧ s.recorder.queue.map (·.kind) = [.integrityError] := by decide +kernel

theorem test_accepted_request_is_sent :
    let s := after (.partnerAcceptsPacket (.target 0)) busy
    (s.tracker.ort[0]).sent = true ∧ s.targets[0].link.egress ≠ [sentRead] := by decide +kernel

/-! ## Admission (chapter 6) -/

/-- R108, R128: the head of H0 takes E4, toggles its phase and goes to D0 under D-tag 9 at the translated address. -/
theorem test_admission_under_the_d_tag :
    let s := after (.headPresented 0) busy
    (s.tracker.ort[4]).state = .waiting ∧
      s.targets[0].link.egress = [sentRead, request .rdq 9 0x00010012345 [] 8] := by decide +kernel

/-- R57: a read of a DISCARD window is answered with bytes 0xFF and allocates nothing. -/
theorem test_discard_window_answers_ones :
    let s := after (.headPresented 1) (busy.setHost 1 (fun x => { x with link := { x.link with
      ingress := [request .rdq 4 0x00050000000 [] 2] } }) |>.setHead 1 .presented)
    s.hosts[1].link.egress = [cpsPacket 3 .ok, cpdPacket 4 [0xFF, 0xFF]] := by decide +kernel

theorem test_isolated_host_head_is_answered_unreachable :
    let s := after (.isolatedHostHead 3) busy
    s.hosts[3].link.egress = [cpsPacket 0x2C .unreachable] ∧ s.hosts[3].link.ingress = [postedWrite] := by
  decide +kernel

/-! ## The tracker (chapters 7 and 8) -/

/-- R148: the final chunk of E1 goes to H1 under its host tag and frees the entry. -/
theorem test_final_chunk_is_forwarded :
    let s := after (.completionMatch 1) calm
    (s.tracker.ort[1]).state = .free ∧ s.targets[1].link.ingress = [] ∧
      s.hosts[1].link.egress = [cpsPacket 3 .ok, { chunk with tag := 6 }] := by decide +kernel

/-- R157: an unsent request is withdrawn and its entry is FREE. -/
theorem test_unsent_entry_expires_free :
    let s := after (.expiry 0) calm
    (s.tracker.ort[0]).state = .free ∧ sentRead ∉ s.targets[0].link.egress ∧
      s.recorder.queue.map (fun f => (f.kind, f.detail)) = [(.completionTimeout, .notSent)] := by decide +kernel

/-- R138: a sent request leaves its entry QUARANTINED for t_QRT, 1 ms under timeout code 3. -/
theorem test_sent_entry_expires_quarantined :
    (after (.expiry 1) calm).tracker.ort[1].state = .quarantined ∧
      (after (.expiry 1) calm).tracker.ort[1].quarantine = some 1500 := by decide +kernel

theorem test_quarantine_ends_free :
    (after (.quarantineEnd 2) calm).tracker.ort[2].state = .free ∧ (after (.quarantineEnd 2) calm).now = 700 := by
  decide +kernel

/-- R124, R137: an entry that expires unsent changes its state alone, so the view still shows its deadline. -/
theorem test_unsent_expiry_keeps_the_deadline :
    (after (.expiry 0) calm).tracker.ort[0] = { e0 with state := .free } := by decide +kernel

/-! ## Commit (chapter 5) -/

/-- R89, R92: the expiry that empties the drain takes the swap, and its fault names the table it arose under. -/
theorem test_fault_of_the_last_entry_names_the_old_table :
    let s := after (.expiry 0) { calm with
      tracker := { calm.tracker with ort := State.reset.tracker.ort.set 0 e0 }
      commit := { calm.commit with engine := .draining, tDrn := some 60000 } }
    s.commit.engine = .idle ∧ s.banks.generation = 8 ∧ s.recorder.queue.map (·.generation) = [7] := by decide +kernel

/-- R87: a DRAIN commit with entries in flight drains, and its deadline is 50 ms. -/
theorem test_drain_begins :
    let s := after .validationComplete { busy with commit := { busy.commit with engine := .validating .drain } }
    s.commit.engine = .draining ∧ s.commit.tDrn = some 50000 ∧ s.banks.generation = 7 := by decide +kernel

/-- R91: an IMMEDIATE commit is swapped in with the next generation. -/
theorem test_immediate_commit_swaps :
    let s := after .validationComplete { busy with commit := { busy.commit with engine := .validating .immediate } }
    s.commit.engine = .idle ∧ s.commit.result.code = .done ∧ s.banks.generation = 8 := by decide +kernel

theorem test_drain_deadline_gives_up :
    let s := after .tDrnExpiry { busy with commit := { busy.commit with engine := .draining, tDrn := some 60 } }
    s.commit.result.code = .drainExpired ∧ s.now = 60 ∧ s.banks.generation = 7 := by decide +kernel

/-! ## Notification (chapter 10) -/

/-- R182: a FAILING alert of a port with isolate-on-failing isolates it after the item has joined the list. -/
theorem test_failing_alert_isolates :
    let s := after (.alertIntake 0) busy
    s.notifier.items.map (·.kind) = [.fault .linkLost 2, .alert 3 .failing 0x1234 1, .fault .linkLost 0] ∧
      (s.link (.target 0)).state = .isolated := by decide +kernel

theorem test_re_send_is_counted :
    let s := after .tRntExpiry calm
    s.notifier.resends = 1 ∧ s.notifier.tRnt = some 10300 ∧ s.hosts[0].link.egress = [notification] := by decide +kernel

/-! ## The aperture (chapter 11) -/

/-- Each write or read ends in its own row of the table (R196, R205). -/
theorem test_steps_of_accesses :
    [0x4008, 0x118, 0x108, 0x110, 0x100, 0x10000, 0x10018, 0x10408, 0x1008, 0x1090, 0x2008, 0x120, 0x5000].map
      (fun o => (writeAt o 0).step) =
    [.acknowledge, .channelEnableWrite, .supervisorPortWrite, .apertureBaseWrite, .grantSetWrite, .stagingWrite,
     .stagingWrite, .stagingWrite, .portConfigWrite, .portConfigWrite, .faultClassWrite, .settingWrite,
     .settingWrite] := by decide +kernel

theorem test_steps_of_commands :
    [1, 2, 0x10, 0x11, 0x12, 0x13, 0x14, 0x15, 0x20, 0x21, 0x30, 0x3F, 0x40].map
      (fun v => (writeAt 0x200 v).step) =
    [.commit, .reseedStaging, .portEnable, .portDisable, .portReset, .portIsolate, .portRestore, .portRetrain,
     .faultPop, .snapshotRelease, .channelRearm, .bridgeReset, .unknownCommand] := by decide +kernel

/-- R43, R205: word 0 of the port record of H1 (state UP, one attempt, one packet in egress, two entries). -/
theorem test_port_record_word :
    busy.liveWord (.portRecord (.host 1) 0) = 0x0000000201000103#64 := by decide +kernel

/-- R198: word 1 comes from the latch that the read of word 0 filled. -/
theorem test_latched_commit_status :
    let s := after .latchedRead (accessing busy (readAt 0x300))
    s.readValue 0 (.commitStatus 1) = 0x0000000700000000#64 ∧
      { s with banks := { s.banks with generation := 9 } }.readValue 0 (.commitStatus 1) = 0x0000000700000000#64 := by
  decide +kernel

theorem test_empty_grant_set_is_denied :
    let s := after .grantSetWrite (accessing busy (writeAt 0x100 0xF0))
    s.mgmt.grant = 1 ∧ s.hosts[0].link.egress = [cpsPacket 7 .denied] := by decide +kernel

theorem test_malformed_access :
    let a : Access := { port := 0, packet := request .rdq 7 0xFFFFFF00104 [] 8 }
    let s := after .malformedApertureAccess (accessing busy a)
    s.hosts[0].link.egress = [cpsPacket 7 .malformed] ∧ s.recorder.queue.map (·.kind) = [.malformedRequest] := by
  decide +kernel

/-- R200: the unit stays BUSY while the DENIED answer of a command on the own port waits for room. -/
theorem test_denied_own_port_command_holds_the_unit :
    let full0 := calm.setHost 0 fun x => { x with link := { x.link with egress := List.replicate 32 (cpsPacket 0 .ok) } }
    let s := after .portDisable (accessing full0 (writeAt 0x200 0x0011))
    s.mgmt.unit = .answering (writeAt 0x200 0x0011) none ∧ s.mgmt.answers[0] = some (cpsPacket 7 .denied) := by
  decide +kernel

/-- R24: PORT_RESTORE of the requester's own isolated port places its answer first and acts after it. -/
theorem test_own_port_is_restored_after_its_answer :
    let isolated0 := calm.setHost 0 fun x => { x with link := { x.link with state := .isolated } }
    let s := after .portRestore (accessing isolated0 (writeAt 0x200 0x0014))
    s.hosts[0].link.egress = [cpsPacket 7 .ok] ∧ s.hosts[0].link.state = .isolated ∧
      (after .selfPortCommandAction s).hosts[0].link.state = .up := by decide +kernel

theorem test_cold_reset_reads_the_straps :
    let s := after (.coldReset 2 3) busy
    s.mgmt.apertureBase = 0x800000 ∧ s.mgmt.grant = 8 ∧ s.mgmt.supervisor = 3 := by decide +kernel

/-! ## Witnesses of the statements' hypotheses -/

/-- A part at work while a commit drains. -/
def draining : State := { busy with commit := { busy.commit with engine := .draining, tDrn := some 60000 } }

/-- `calm` with H1's ingress queue as given. -/
def withHead (h : HPort) (c : HeadCondition) (l : List Packet) : State :=
  (calm.setHost h fun x => { x with link := { x.link with ingress := l } }).setHead h c

/-- `calm` with D1's ingress queue as given. -/
def withCompletion (p : Packet) : State := calm.setTarget 1 fun x => { x with link := { x.link with ingress := [p] } }

/-- A host port of `s` with its egress queue full. -/
def full (s : State) (h : HPort) : State :=
  s.setHost h fun x => { x with link := { x.link with egress := List.replicate 32 (cpsPacket 0 .ok) } }

theorem witness_StepRunsTheFrontCommand :
    busy.pending = .tTrnExpiry (.target 2) :: [] ∧ State.reset.pending = [] := ⟨rfl, rfl⟩

theorem witness_WarmResetClearsAndKeeps :
    { busy with mgmt := { busy.mgmt with action := some .warmReset } }.mgmt.action = some .warmReset := rfl

theorem witness_TrainingBeginsAndBringsThePortUp :
    (busy.link (.target 5)).state = .down ∧ (State.reset.link (.host 0)).state = .down ∧
      busy.targets[2].link.state = .training ∧ busy.hosts[2].link.state = .training ∧
      busy.admission.passDue = false := by decide

theorem witness_FailedAttemptIsRepeatedOrEndsInFailed :
    ((busy.link (.target 2)).state = .training ∧ (busy.link (.target 2)).attempts < (busy.link (.target 2)).attemptLimit ∧
      (busy.link (.target 2)).tTrn = some 50) ∧
    ((busy.link (.host 2)).state = .training ∧ (busy.link (.host 2)).attemptLimit ≤ (busy.link (.host 2)).attempts ∧
      (busy.link (.host 2)).tTrn = some 100) := by decide

theorem witness_LinkLossTakesThePortDown :
    busy.hosts[0].link.state = .up ∧ (busy.link (.target 1)).state = .up ∧ (busy.link (.host 3)).state = .isolated ∧
      (busy.link (.target 2)).state = .training := by decide

theorem witness_LinkLossTakesThePortDown_unlisted :
    (busy.link (.host 0)).state ≠ .down ∧ (busy.link (.host 0)).state ≠ .training ∧
      (busy.link (.target 4)).state = .failed ∧ (busy.link (.target 5)).state = .down := by decide

/-- D1 holds three entries and two packets, and a final packet for H0 that waits at its head; H0 has no room; D5 holds
nothing. -/
theorem witness_LeavingUpPurgesATarget :
    busy.targets[1].link.state = .up ∧ busy.tracker.ort.toList.countP (fun e => e.state != .free && e.target == 1) = 3 ∧
      busy.targets[1].link.ingress = [chunk] ∧ (full busy 0).hostHasRoom 0 = false ∧
      busy.classOf .linkLost = .notify ∧ busy.recorder.queue.length < 16 ∧
      busy.tracker.ort.toList.countP (fun e => e.state != .free && e.target == 5) = 0 ∧
      busy.targets[5].link.ingress = [] ∧ busy.targets[5].link.egress = [] ∧ chunk.final = true := by decide +kernel

/-- H0 in UP with no answer waiting, with one that the unit does not hold BUSY for, and with one of a command on its own
port that was refused. -/
theorem witness_LeavingUpOrphansAHost :
    calm.hosts[0].link.state = .up ∧ LinkState.down ≠ .up ∧ calm.mgmt.answers[(0 : HPort)] = none ∧
    (let s := { calm with mgmt := { calm.mgmt with answers := calm.mgmt.answers.set 0 (some (cpsPacket 7 .ok)) } }
     s.mgmt.answers[(0 : HPort)] = some (cpsPacket 7 .ok) ∧ s.mgmt.unit = .free) ∧
    (let s := { calm with mgmt := { calm.mgmt with
      unit := .answering (writeAt 0x200 0x12) none, answers := calm.mgmt.answers.set 0 (some (cpsPacket 7 .denied)) } }
     s.mgmt.answers[(0 : HPort)] = some (cpsPacket 7 .denied) ∧ s.mgmt.unit = .answering (writeAt 0x200 0x12) none ∧
       (writeAt 0x200 0x12).port = 0) := by decide +kernel

/-- An empty queue and a queue with one place left take a packet; a full one and a port in DOWN do not. -/
theorem witness_ArrivingPacketIsQueuedOrReported_room :
    (busy.link (.host 0)).state = .up ∧ (withHead 1 .presented (List.replicate 15 read0)).hosts[1].link.ingress.length < 16 ∧
      ¬ (withHead 1 .presented (List.replicate 16 read0)).hosts[1].link.ingress.length < 16 ∧
      (busy.link (.target 5)).state = .down ∧ busy.admission.passDue = false := by decide +kernel

/-- A sound legal packet of each side, one of a kind that is illegal there, and one that is unsound. -/
theorem witness_ArrivingPacketIsQueuedOrReported_form :
    (packetSizeOk read0.toBytes ∧ integrityOk read0.toBytes ∧ (parsePacket read0.toBytes).kindCode ∈ [1#8, 2#8, 3#8]) ∧
    (packetSizeOk chunk.toBytes ∧ integrityOk chunk.toBytes ∧ (parsePacket chunk.toBytes).kindCode ∈ [4#8, 5#8, 6#8] ∧
      (parsePacket chunk.toBytes).formOk = true) ∧ integrityOk (read0.toBytes.set 9 0xFF) = false := by decide +kernel

theorem witness_AcceptedPacketLeavesTheEgressQueue :
    (busy.hosts[1].link.state = .up ∧ busy.hosts[1].link.egress = cpsPacket 3 .ok :: [] ∧
      busy.admission.passDue = false) ∧
    (busy.targets[1].link.state = .up ∧ busy.targets[1].link.egress = postedWrite :: [] ∧
      postedWrite.kind ≠ some .rdq ∧ postedWrite.kind ≠ some .waq) ∧
    (busy.targets[0].link.egress = sentRead :: [] ∧ sentRead.kind = some .rdq ∧
      sentRead.tag.toNat = 2 * 0 + (busy.tracker.ort[0]).phase.toNat ∧ (busy.tracker.ort[0]).state = .waiting ∧
      (busy.tracker.ort[0]).target = 0) := by decide +kernel

theorem witness_IsolatedPortUnitTakesItsHeads :
    (busy.hosts[3].link.state = .isolated ∧ busy.hosts[3].link.ingress = [read0, postedWrite] ∧
      read0.kind ≠ some .wpq ∧ busy.givesRoom 3 .localAnswer = true ∧ busy.admission.passDue = false) ∧
    (full busy 3).givesRoom 3 .localAnswer = false ∧
    (let s := busy.popIngress (.host 3)
     s.hosts[3].link.ingress = [postedWrite] ∧ postedWrite.kind = some .wpq) ∧
    (busy.targets[3].link.state = .isolated ∧ busy.targets[3].link.ingress = [chunk]) := by decide +kernel

theorem witness_SentPacketParsesBack : chunk.payload.length ≤ 256 ∧ (List.replicate 256 (0 : Byte)).length ≤ 256 := by
  decide +kernel

/-! The invariants hold in a part at work, whose queue holds a command. -/

theorem busy_steps : ∃ t, step busy = .next t := ⟨_, rfl⟩
theorem draining_steps : ∃ t, step draining = .next t := ⟨_, rfl⟩

theorem witness_StepKeepsQueuesWithinCapacity : QueuesWithinCapacity busy ∧ ∃ t, step busy = .next t :=
  ⟨⟨by decide +kernel, by decide +kernel, by decide +kernel, by decide +kernel, by decide, by decide⟩, busy_steps⟩

/-- `busy` by its ports, for statements about every port. -/
theorem forall_port {f : Port → Prop} (h : ∀ x : HPort, f (.host x)) (d : ∀ x : DPort, f (.target x)) : ∀ p, f p
  | .host x => h x
  | .target x => d x

theorem busy_quiet : QuietPortsEmpty busy := forall_port (by decide +kernel) (by decide +kernel)

theorem witness_StepKeepsQuietPortsEmptyAndTimersFitting :
    (QuietPortsEmpty busy ∧ TimersFitStates draining) ∧ (∃ t, step busy = .next t) ∧ ∃ t, step draining = .next t :=
  ⟨⟨busy_quiet, forall_port (by decide +kernel) (by decide +kernel), by decide +kernel⟩, busy_steps, draining_steps⟩

theorem witness_StepKeepsHeadConditionsFitting :
    HeadsFit busy ∧ UnitFits busy ∧ QuietPortsEmpty busy ∧ ∃ t, step busy = .next t := by
  refine ⟨?_, trivial, busy_quiet, busy_steps⟩
  intro h
  match h with
  | 0 => exact (by decide +kernel : busy.hostUp 0 = true ∧ busy.hosts[(0 : HPort)].link.ingress ≠ [])
  | 1 => exact (by decide +kernel : busy.hostUp 1 = false ∨ busy.hosts[(1 : HPort)].link.ingress = [])
  | 2 => exact (by decide +kernel : busy.hostUp 2 = false ∨ busy.hosts[(2 : HPort)].link.ingress = [])
  | 3 => exact (by decide +kernel : busy.hostUp 3 = false ∨ busy.hosts[(3 : HPort)].link.ingress = [])

theorem witness_StepKeepsEntriesAimedAtUpTargets : EntriesAimAtUpTargets busy ∧ ∃ t, step busy = .next t :=
  ⟨by unfold EntriesAimAtUpTargets; decide +kernel, busy_steps⟩

theorem witness_StepKeepsHostTagsUnique : HostTagsUnique busy ∧ ∃ t, step busy = .next t :=
  ⟨by unfold HostTagsUnique; decide +kernel, busy_steps⟩

/-- The fields of an entry fit, as one decidable statement. -/
abbrev EntryFitsAll (e : Entry) : Prop :=
  (e.deadline.isSome = true → e.inFlight = true ∨ (e.state = .free ∧ e.sent = false)) ∧ (e.quarantine.isSome = true ↔ e.state = .quarantined) ∧
  (e.state = .waiting → e.delivered = 0) ∧
  (e.state = .receiving → e.kind = .read ∧ e.sent = true ∧ 1 ≤ e.delivered ∧ e.delivered < e.length.toNat) ∧
  (e.state = .quarantined → e.sent = true) ∧ (e.absorbed = true ↔ e.kind = .writeConverted)

theorem witness_StepKeepsEntriesFitting : EntriesFit busy ∧ ∃ t, step busy = .next t := by
  refine ⟨fun e => ?_, busy_steps⟩
  have h : ∀ e : EntryIx, EntryFitsAll (busy.tracker.ort[e]) := by decide +kernel
  obtain ⟨h1, h2, h3, h4, h5, h6⟩ := h e
  exact ⟨h1, h2, h3, h4, h5, h6⟩

theorem witness_StepKeepsTheDrainWaiting :
    DrainHasWork draining ∧ draining.commit.engine = .draining ∧ ∃ t, step draining = .next t :=
  ⟨by unfold DrainHasWork; decide +kernel, rfl, draining_steps⟩

theorem witness_StepKeepsAnswerListsBounded : AnswerListsBounded busy ∧ ∃ t, step busy = .next t :=
  ⟨by unfold AnswerListsBounded; decide +kernel, busy_steps⟩

theorem witness_StepKeepsSettingsLegal : SettingsLegal busy ∧ ∃ t, step busy = .next t :=
  ⟨⟨by decide, fun k => by cases k <;> decide, forall_port (by decide +kernel) (by decide +kernel), by decide +kernel,
    by decide +kernel, by decide, by decide, by decide, by decide⟩, busy_steps⟩

/-- The conditions of R47 on one window and of R66 on one group, as decidable statements. -/
abbrev WindowOk (b : Bank) (w : Window) : Prop :=
  w.base.toNat ≤ w.limit.toNat ∧ w.destKind ≠ 3 ∧ (w.destKind = 0 → w.destPort.toNat < 6) ∧
  (w.destKind = 0 ∨ w.destKind = 1 → w.translationBase.toNat + (w.limit.toNat - w.base.toNat) < 2 ^ 24) ∧
  (w.destKind = 1 → (b.groups[w.group]).valid = true)
abbrev GroupOk (g : Group) : Prop :=
  (g.memberCount = 2 ∨ g.memberCount = 4) ∧ (∀ i : Fin 8, i.val < g.memberCount.toNat → (g.memberAt i.val).toNat < 6) ∧
  (∀ i j : Fin 8, i < j → j.val < g.memberCount.toNat → g.memberAt i.val ≠ g.memberAt j.val) ∧ g.granuleCode ≠ 3

/-- A bank whose records meet their conditions and whose windows of one class stand apart is legal. -/
theorem bankLegal_of {b : Bank} (hw : ∀ i : WinIx, (b.windows[i]).valid = true → WindowOk b b.windows[i])
    (hg : ∀ i : GroupIx, (b.groups[i]).valid = true → GroupOk b.groups[i])
    (ha : ∀ i j : WinIx, i ≠ j → (b.windows[i]).valid = true → (b.windows[j]).valid = true →
      (b.windows[i]).level = (b.windows[j]).level → (b.windows[i]).limit.toNat < (b.windows[j]).base.toNat ∨
        (b.windows[j]).limit.toNat < (b.windows[i]).base.toNat) : BankLegal b := by
  refine ⟨fun i hi => ?_, fun i hi => ?_, fun i j hij hl k hk => ?_⟩
  · obtain ⟨h1, h2, h3, h4, h5⟩ := hw i hi
    exact ⟨h1, h2, h3, h4, h5⟩
  · obtain ⟨h1, h2, h3, h4⟩ := hg i hi
    have hc := (b.groups[i]).memberCount.isLt
    exact ⟨h1, fun k hk => h2 ⟨k, by omega⟩ hk, fun k l hkl hl => h3 ⟨k, by omega⟩ ⟨l, by omega⟩ hkl hl, h4⟩
  · simp only [Window.holds, Bool.and_eq_true, decide_eq_true_eq] at hk
    obtain ⟨⟨⟨v1, a1⟩, b1⟩, ⟨v2, a2⟩, b2⟩ := hk
    rcases ha i j hij v1 v2 hl with h | h <;> omega

theorem bank_legal : BankLegal bank := bankLegal_of (by decide +kernel) (by decide +kernel) (by decide +kernel)

theorem witness_StepKeepsTheActiveBankValid :
    BanksLegal draining ∧ draining.commit.engine = .draining ∧ ∃ t, step draining = .next t :=
  ⟨⟨bank_legal, fun _ => bank_legal⟩, rfl, draining_steps⟩

/-- A bank that differs from an empty one in one window or group. -/
def withWindow (i : WinIx) (w : Window) : Bank := { Bank.reset with windows := Bank.reset.windows.set i w }
def withGroup (i : GroupIx) (g : Group) : Bank := { Bank.reset with groups := Bank.reset.groups.set i g }

/-- One failure of each kind, at the ends of its range, and the legal neighbour of each (R82 to R84). -/
theorem witness_ValidationAnswersTheFirstFailure :
    ((withWindow 31 { valid := true, base := 1 }).validate = some ⟨.badWindow, 31, none⟩ ∧
      (withWindow 31 { valid := true, base := 1, limit := 1 }).validate = none) ∧
    ((withWindow 0 { valid := true, destPort := 6 }).validate = some ⟨.badWindow, 0, none⟩ ∧
      (withWindow 0 { valid := true, destPort := 5 }).validate = none ∧
      (withWindow 0 { valid := true, destKind := 3 }).validate = some ⟨.badWindow, 0, none⟩) ∧
    ((withWindow 0 { valid := true, limit := 1, translationBase := 0xFFFFFF }).validate = some ⟨.badWindow, 0, none⟩ ∧
      (withWindow 0 { valid := true, translationBase := 0xFFFFFF }).validate = none) ∧
    (withWindow 7 { valid := true, destKind := 1, group := 2 }).validate = some ⟨.badGroup, 2, some 7⟩ ∧
    ((withGroup 3 { valid := true, memberCount := 3 }).validate = some ⟨.badGroup, 3, none⟩ ∧
      (withGroup 3 { valid := true, memberCount := 2, member1 := 6 }).validate = some ⟨.badGroup, 3, none⟩ ∧
      (withGroup 3 { valid := true, memberCount := 2 }).validate = some ⟨.badGroup, 3, none⟩ ∧
      (withGroup 3 { valid := true, memberCount := 2, member1 := 5 }).validate = none) ∧
    ({ bank with windows := bank.windows.set 9 { valid := true, base := 0x4FF, limit := 0x500 } } : Bank).validate =
      some ⟨.overlap, 0, some 9⟩ ∧ bank.validate = none := by decide +kernel

theorem witness_StepKeepsTheChannelFitting : ChannelFits busy ∧ ∃ t, step busy = .next t :=
  ⟨⟨by decide, by decide, by decide, fun _ => ⟨_, _, rfl, rfl⟩, by decide⟩, busy_steps⟩

/-! Lookup and admission. -/

/-- One request for each check of R99, in order. -/
theorem witness_AdmissionChecksDecideInOrder :
    (request .rdq 1 0x00040000000 [] 0).wellFormedRequest = false ∧
    (read0.kind = some .rdq ∧ read0.wellFormedRequest = true ∧ blockOf read0.address ≠ busy.mgmt.apertureBase) ∧
    (blockOf (readAt 0).packet.address = busy.mgmt.apertureBase ∧ (readAt 0).packet.wellFormedRequest = true ∧
      busy.granted 0 = true ∧ busy.granted 1 = false) ∧
    draining.commit.engine = .draining ∧ busy.commit.engine ≠ .draining ∧
    busy.banks.classify busy.mgmt.apertureBase 0 (some .rdq) 0x00060000000 = .unmapped ∧
    busy.banks.classify busy.mgmt.apertureBase 0 (some .rdq) 0x00050100000 = .refused 2 ∧
    busy.banks.classify busy.mgmt.apertureBase 0 (some .waq) 0x00050000000 = .discard 1 ∧
    busy.banks.classify busy.mgmt.apertureBase 0 (some .rdq) 0x00050200000 = .routed 3 5 0 false 7 ∧
    busy.targetUp 5 = false := by decide +kernel

/-- Check 7: the tag of E0 is held; with D0's limit reached the count is missing, and with nothing missing the head passes;
an untracked posted write needs a slot alone. -/
theorem witness_AdmissionChecksDecideInOrder_resources :
    busy.banks.classify busy.mgmt.apertureBase 0 (some .rdq) 0x00040000000 = .routed 0 0 0x00010000000 false 7 ∧
    busy.targetUp 0 = true ∧
    (let e := busy.tracker.ort[(0 : EntryIx)]
     e.state = .waiting ∧ e.orphaned = false ∧ e.kind ≠ .writeConverted ∧ e.host = 0 ∧ e.hostTag = 5) ∧
    (∀ e : EntryIx, (busy.tracker.ort[e]).host = 0 → (busy.tracker.ort[e]).inFlight = true →
      (busy.tracker.ort[e]).hostTag ≠ read0.tag) ∧
    (busy.missing 0 0).any = false ∧
    ((busy.setTarget 0 fun x => { x with outstandingLimit := 1 }).missing 0 0).targetCount = true ∧
    ((busy.setTarget 0 fun x => { x with link := { x.link with egress := List.replicate 16 sentRead } }).missing 0
      0).egressSlot = true ∧ busy.targets[0].link.egress.length < 16 ∧ postedWrite.kind = some .wpq := by decide +kernel

/-- W4 lies in W0's range in a higher class, toward D1; the block of the aperture, a block of no window, a block of one
window and the block of both. -/
def windowW4 : Window :=
  { valid := true, base := 0x4FF, limit := 0x4FF, level := 2, readAllowed := true, hostSet := 1, destPort := 1,
    translationBase := 0x300 }
def layered : Bank := { bank with windows := bank.windows.set 4 windowW4 }

theorem layered_legal : BankLegal layered := bankLegal_of (by decide +kernel) (by decide +kernel) (by decide +kernel)

theorem witness_HighestClassWindowDecidesTheClassification :
    let b : Banks := { active := layered, staging := layered, generation := 7 }
    BankLegal b.active ∧
    (let block (n : Nat) (i : WinIx) : Bool := (b.active.windows[i]).valid && decide ((b.active.windows[i]).base.toNat ≤ n) &&
      decide (n ≤ (b.active.windows[i]).limit.toNat)
     (0xFFFFFF12340 : Addr).toNat / 2 ^ 20 = (0xFFFFFF : Block).toNat ∧ (∀ i, block 0x600 i = false) ∧
       (∀ i, block 0x400 i = decide (i = 0)) ∧ (∀ i, block 0x4FF i = (decide (i = 0) || decide (i = 4)))) ∧
    (b.classify 0xFFFFFF 0 (some .rdq) 0x0004FF00000 = .routed 4 1 0x00030000000 false 7 ∧
      b.classify 0xFFFFFF 0 (some .waq) 0x0004FF00000 = .refused 4 ∧
      b.classify 0xFFFFFF 1 (some .rdq) 0x0004FF00000 = .refused 4 ∧
      b.classify 0xFFFFFF 1 (some .rdq) 0x00050000000 = .discard 1 ∧
      b.classify 0xFFFFFF 1 (some .rdq) 0x00060000000 = .unmapped) :=
  ⟨layered_legal, by decide +kernel, by decide +kernel⟩

/-- The windows and groups of section 4.8 in one bank, with a PORT window. -/
def interleaved : Bank :=
  { windows := (bank.windows.set 12 windowW12).set 20 windowW20
    groups := (bank.groups.set 1 groupG1).set 3 groupG3 }

theorem witness_TranslationAndInterleaveArithmetic :
    BankLegal interleaved ∧ (interleaved.windows[(0 : WinIx)]).destKind = 0 ∧
      (interleaved.windows[(12 : WinIx)]).destKind = 1 ∧ groupG1.compaction = true ∧ groupG3.compaction = false ∧
      (interleaved.windows[(0 : WinIx)]).holds (blockOf 0x00040000000) = true ∧
      (interleaved.windows[(12 : WinIx)]).holds (blockOf 0x00103FFFF00) = true ∧
      (interleaved.windows[(20 : WinIx)]).holds (blockOf 0x002001FFFF0) = true ∧
      (0x002001FFFF0 : Addr).toNat % 256 + 15 < 256 :=
  ⟨bankLegal_of (by decide +kernel) (by decide +kernel) (by decide +kernel), by decide +kernel⟩

def admitted (k : Option EntryKind) (a : Addr) : Admitted :=
  { kind := k, window := 0, target := 0, address := a, generation := 7 }

theorem witness_AdmissionNeedsPermissionAndResources :
    busy.decideHead 0 read0 = .admitting (admitted (some .read) 0x00010012345) ∧
      busy.decideHead 0 postedWrite = .admitting (admitted none 0x00010000000) := by decide +kernel

theorem witness_PresentedHeadIsAdmittedUnderItsDTag :
    busy.admission.heads[(0 : HPort)] = .presented ∧ busy.hosts[(0 : HPort)].link.ingress = read0 :: [] ∧
      (∀ g : HPort, g ≠ 0 → busy.admission.heads[g] = .noHead ∨ busy.admission.heads[g] = .held) ∧
      busy.decideHead 0 read0 = .admitting (admitted (some .read) 0x00010012345) ∧
      (busy.tracker.ort[(4 : EntryIx)]).state = .free ∧
      ∀ f : EntryIx, f < 4 → (busy.tracker.ort[f]).state ≠ .free := by decide +kernel

def discardRead : Packet := request .rdq 4 0x00050000000 [] 2

/-- A head of each outcome: an untracked write, an aperture read, a local answer with and without room, a drop and a wait;
two diverted heads that a free unit may accept; and a head that waits for answer room. -/
theorem witness_HeadTakesTheOutcomeOfItsEvaluation :
    (let s := withHead 0 .presented [postedWrite]
     s.hosts[(0 : HPort)].link.ingress = [postedWrite] ∧ s.admission.heads[(0 : HPort)] = .presented ∧
       s.decideHead 0 postedWrite = .admitting (admitted none 0x00010000000)) ∧
    (let s := withHead 0 (.waiting .management) [(readAt 0x100).packet]
     s.decideHead 0 (readAt 0x100).packet = .divert ∧ s.mgmt.unit = .free ∧ s.mgmt.action = none ∧
       s.mgmt.answers[(0 : HPort)] = none ∧ s.admission.heads[(0 : HPort)] = .waiting .management) ∧
    (let s := withHead 1 (.waiting .answerRoom) [discardRead]
     s.admission.heads[(1 : HPort)] = .waiting .answerRoom ∧ s.givesRoom 1 .localAnswer = true ∧
       (full s 1).givesRoom 1 .localAnswer = false ∧ s.hosts[(1 : HPort)].link.ingress = [discardRead] ∧
       s.decideHead 1 discardRead = .answer (cpdPacket 4 [0xFF, 0xFF]) none) ∧
    (let p := request .wpq 0 0x00050000000 [1] 1
     (withHead 1 .presented [p]).decideHead 1 p = .drop none) ∧
    draining.decideHead 0 read0 = .wait .pause ∧ draining.hosts[(0 : HPort)].link.ingress = [read0] ∧
    draining.admission.heads[(0 : HPort)] = .presented ∧ draining.admission.heads[(1 : HPort)] = .noHead := by
  decide +kernel

theorem witness_PassesEndAndKeepBanksAndSettings : 5 ≤ 5 ∧ 5 ≤ 6 ∧ busy.admission.passDue = false := by decide

/-- H0's aperture read is presented and the command that takes it is at the front. -/
def diverting : State := { withHead 0 .presented [(readAt 0x100).packet] with pending := [.headPresented 0] }

theorem witness_OnlyGrantedRequestsReachTheUnit :
    step diverting = .next (after (.headPresented 0) { diverting with pending := [] }) ∧
      (after (.headPresented 0) { diverting with pending := [] }).mgmt.unit = .accessing (readAt 0x100) ∧
      diverting.mgmt.unit ≠ .accessing (readAt 0x100) := ⟨rfl, by decide +kernel, by decide +kernel⟩

/-! The tracker. -/

/-- The tag of a QUARANTINED entry, and that of a FREE one. -/
theorem witness_UnmatchedCompletionIsDiscarded :
    (withCompletion { chunk with tag := 4 }).completionAt 1 = some { chunk with tag := 4 } ∧
      (calm.tracker.ort[tagEntry 4]).compare 1 4 = .late ∧
      (withCompletion { chunk with tag := 9 }).completionAt 1 = some { chunk with tag := 9 } ∧
      (calm.tracker.ort[tagEntry 9]).compare 1 9 = .unexpected := by decide +kernel

/-- A good chunk that is not final, a good final one, a status for each kind and a chunk at a wrong offset. -/
theorem witness_MatchedCompletionIsHandledByKind :
    tagEntry 3 = 1 ∧ tagEntry 7 = 3 ∧ e1.compare 1 3 = .matched ∧ e3.compare 1 7 = .matched ∧ calm.tracker.ort[1] = e1 ∧
    calm.completionAt 1 = some chunk ∧ chunk.kind = some .cpd ∧
    (chunk.offset.toNat = e1.delivered ∧ 1 ≤ chunk.length.toNat ∧ chunk.final = true ∧
      chunk.offset.toNat + chunk.length.toNat = e1.length.toNat) ∧
    (let c := { chunk with length := 4, final := false, payload := [1, 2, 3, 4] }
     (withCompletion c).completionAt 1 = some c ∧ c.offset.toNat + c.length.toNat < e1.length.toNat) ∧
    (let c := cpsPacket 3 .aborted
     (withCompletion c).completionAt 1 = some c ∧ c.kind = some .cps ∧ c.status ≠ 0) ∧
    (let c := cpsPacket 7 .ok
     (withCompletion c).completionAt 1 = some c ∧ c.kind = some .cps ∧ e3.kind ≠ .read) ∧
    (let c := { chunk with offset := 9, length := 7, payload := [1, 2, 3, 4, 5, 6, 7] }
     (withCompletion c).completionAt 1 = some c ∧ c.offset.toNat ≠ e1.delivered) := by decide +kernel

/-- H0's next candidate: an item of the answer list for D2, and before it a packet that waits at D1. -/
theorem witness_TrackerPlacesTheNextCandidate :
    (busy.givesRoom 0 .tracker = true ∧
      (∀ c : DPort, (c - busy.tracker.pointers[(0 : HPort)]).val < ((2 : DPort) - busy.tracker.pointers[(0 : HPort)]).val →
        busy.tracker.candidate 0 c = none) ∧
      busy.tracker.candidate 0 2 = some (.item { hostTag := 9, status := .expired, target := 2, order := 4 })) ∧
    (let w : Produced := { host := 0, packet := chunk, order := 2 }
     let s : State := { busy with tracker := { busy.tracker with waiting := busy.tracker.waiting.set 1 (some w) } }
     s.givesRoom 0 .tracker = true ∧ s.tracker.candidate 0 1 = some (.head w) ∧ s.admission.passDue = false ∧
       ∀ c : DPort, (c - s.tracker.pointers[(0 : HPort)]).val < ((1 : DPort) - s.tracker.pointers[(0 : HPort)]).val →
         s.tracker.candidate 0 c = none) := by decide +kernel

theorem witness_ExpiryFreesOrQuarantines :
    (busy.tracker.ort[0] = e0 ∧ e0.state = .waiting ∧ e0.deadline = some 1000 ∧ e0.sent = false) ∧
    (busy.tracker.ort[1] = e1 ∧ e1.state = .receiving ∧ e1.deadline = some 500 ∧ e1.sent = true) ∧
    busy.tracker.ort[2].state = .quarantined ∧
    busy.tracker.ort[2].quarantine = some 700 := by decide +kernel

/-! Settings, banks and commit. -/

theorem witness_SettingsChangeOnlyByTheirWrites :
    exec (.expiry 0) busy = .next (after (.expiry 0) busy) ∧ (Instr.expiry 0).writesSettings = false := ⟨rfl, rfl⟩

theorem witness_BanksChangeOnlyBySwapOrStagingWrite :
    exec .stagingWrite (accessing busy (writeAt 0x10000 1)) =
      .next (after .stagingWrite (accessing busy (writeAt 0x10000 1))) ∧
      ∀ aps mgs, Instr.stagingWrite ≠ .coldReset aps mgs := ⟨rfl, by decide⟩

theorem witness_CommitAndReseedAreTakenInIdle :
    (accessing busy (writeAt 0x200 0x0001)).executes (writeAt 0x200 0x0001) .commit ∧
    (writeAt 0x200 0x0001).argument = 0 ∧
    (accessing busy (writeAt 0x200 0x0101)).executes (writeAt 0x200 0x0101) .commit ∧
    (writeAt 0x200 0x0101).argument = 1 ∧
    (accessing busy (writeAt 0x200 0x0201)).executes (writeAt 0x200 0x0201) .commit ∧
    (writeAt 0x200 0x0201).argument = 2 ∧ (writeAt 0x200 0xFF01).argument = 255 ∧
    (accessing draining (writeAt 0x200 2)).executes (writeAt 0x200 2) .reseedStaging ∧
    busy.commit.engine = .idle ∧ draining.commit.engine ≠ .idle := by decide +kernel

/-- Mode DRAIN with entries in flight, and with none; and a staging bank that fails. -/
theorem witness_CommitEndsInFailureSwapOrExpiry :
    busy.banks.staging.validate = none ∧ busy.tracker.inFlightCount ≠ 0 ∧ State.reset.tracker.inFlightCount = 0 ∧
    ({ bank with windows := bank.windows.set 31 { valid := true, base := 1 } } : Bank).validate =
      some ⟨.badWindow, 31, none⟩ ∧
    draining.commit.engine = .draining ∧ draining.commit.tDrn = some 60000 ∧
    { State.reset with commit := draining.commit }.tracker.inFlightCount = 0 := by decide +kernel

/-! The aperture. -/

theorem witness_CompletedAccessFreesTheUnit :
    (accessing calm (writeAt 0x100 1)).mgmt.unit = .accessing (writeAt 0x100 1) ∧
    (calm.hosts[0].link.state = .up ∧ calm.givesRoom 0 .management = true ∧ (full calm 0).givesRoom 0 .management = false) ∧
    calm.hosts[2].link.state = .training := by decide +kernel

theorem witness_ReadsAndMalformedAccessesAreAnswered :
    (accessing busy (readAt 0x100)).executes (readAt 0x100) .latchedRead ∧ (readAt 0x100).reg.latched = none ∧
    (accessing busy (readAt 0x300)).executes (readAt 0x300) .latchedRead ∧
    (readAt 0x300).reg.latched = some (.commitStatus, 0) ∧
    (accessing busy (readAt 0x308)).executes (readAt 0x308) .latchedRead ∧
    (readAt 0x308).reg.latched = some (.commitStatus, 0 + 1) ∧ busy.mgmt.latches[(0 : HPort)] = none ∧
    (after .latchedRead (accessing busy (readAt 0x300))).mgmt.latches[(0 : HPort)] =
      some { record := .commitStatus, words := [0x0000000000FFFF00, 0x0000000700000000] } := by decide +kernel

theorem witness_ReadsAndMalformedAccessesAreAnswered_malformed :
    ({ (readAt 0).packet with length := 9 } : Packet).length ≠ 8 ∧ (readAt 0x104).packet.address.toNat % 8 ≠ 0 ∧
      (accessing busy (readAt 0x104)).mgmt.unit = .accessing (readAt 0x104) := by decide +kernel

/-- An empty and a filled fault queue, a pending list with an item of each kind, and a position beyond it. -/
theorem witness_ApertureShowsTheState :
    let f : FaultRecord := { sequence := 1, kind := .linkLost, port := .host 0, entry := none, hostTag := none,
                             window := none, address := none, generation := 0, detail := .count 3 }
    let i : PendingItem := { kind := .alert 3 .degraded 0x1234 9, source := .target 0, repeatCount := 254, sent := false }
    let s := { busy with
      recorder := { busy.recorder with queue := [f] }, notifier := { busy.notifier with items := busy.notifier.items ++ [i] } }
    busy.recorder.queue = [] ∧ s.recorder.queue = f :: [] ∧ s.notifier.items[1]? = some i ∧
      (∃ x ∈ s.notifier.items[0]?, x.kind = .fault .linkLost 2) ∧ s.notifier.items.length ≤ (7 : Fin 8).val ∧
      s.liveWord (.faultHead 0) = 0x0304000100000E01 := by decide +kernel

/-- Every word of SETTING_WRITE at the ends of its range; an allowed and a refused class; a grant set and an empty one. -/
theorem witness_RegisterWritesTakeEffectOrAreRefused :
    ((accessing busy (writeAt 0x100 8)).executes (writeAt 0x100 8) .grantSetWrite ∧ bits (writeAt 0x100 8).value 0 4 ≠ 0 ∧
      bits (writeAt 0x100 0xF0).value 0 4 = 0) ∧
    (accessing busy (writeAt 0x110 0x400)).executes (writeAt 0x110 0x400) .apertureBaseWrite ∧
    ((accessing busy (writeAt 0x2080 1)).executes (writeAt 0x2080 1) .faultClassWrite ∧
      (writeAt 0x2080 1).reg = .faultClass .alertOverflow ∧ FaultKind.alertOverflow.allows (.ofCode 1) = true ∧
      FaultKind.alertOverflow.allows (.ofCode 3) = false) ∧
    ([(0x130, 0), (0x130, 1), (0x130, 255), (0x120, 6), (0x120, 7), (0x128, 7), (0x208, 0)].all fun x =>
      (writeAt x.1 x.2).step == .settingWrite) = true ∧
    ([0x130, 0x120, 0x128, 0x208].map fun o => (writeAt o 0).reg) =
      [.drainDeadline, .tRntCode, .resendLimit, .commandResult] := by decide +kernel

theorem witness_RegisterWritesTakeEffectOrAreRefused_staging :
    (accessing busy (writeAt 0x10000 1)).executes (writeAt 0x10000 1) .stagingWrite ∧
    (accessing draining (writeAt 0x10418 1)).executes (writeAt 0x10418 1) .stagingWrite ∧
    ([0x10000, 0x10008, 0x10010, 0x10018, 0x103F8].map fun o => (writeAt o 1).reg) =
      [.stagingWindow 0 0, .stagingWindow 0 1, .stagingWindow 0 2, .stagingWindow 0 3, .stagingWindow 31 3] ∧
    ([0x10400, 0x10438].map fun o => (writeAt o 1).reg) = [.stagingGroup 0 0, .stagingGroup 3 1] ∧
    busy.commit.engine = .idle ∧ draining.commit.engine ≠ .idle := by decide +kernel

/-- The limits at the ends of their ranges and one past them. -/
theorem witness_PortConfigWritesAreTakenInRange :
    ([0x0101, 0x8004, 0x0100, 0x0105, 0x0004, 0x8104].all fun v =>
      (writeAt 0x1008 v).step == .portConfigWrite) = true ∧
    (writeAt 0x1008 0x8004).reg = .portRecord (.host 0) 1 ∧ bits (writeAt 0x1008 0x8004).value 0 3 = 4 ∧
    bits (writeAt 0x1008 0x8004).value 8 8 = 128 ∧ bits (writeAt 0x1008 0x8104).value 8 8 = 129 ∧
    bits (writeAt 0x1008 0x0105).value 0 3 = 5 ∧
    (writeAt 0x1088 4).reg = .portRecord (.target 0) 1 ∧ (writeAt 0x1130 0).reg = .portRecord (.target 5) 2 ∧
    bits (writeAt 0x1130 0x13780).value 0 8 = 128 ∧ Severity.ofCode (bits (writeAt 0x1130 0x13780).value 12 2) = some .failing ∧
    bits (writeAt 0x1130 0x00702).value 12 2 = 0 ∧ (writeAt 0x1000 0).reg = .portRecord (.host 0) 0 ∧
    (writeAt 0x1138 0).reg = .portRecord (.target 5) 3 ∧ (writeAt 0x1010 0).reg = .portRecord (.host 0) 2 ∧
    (writeAt 0x1130 0).step = .portConfigWrite := by decide +kernel

/-! Commands on ports. -/

def command (code arg : Nat) : Access := writeAt 0x200 (code + 256 * arg)

/-- D4 with another state. -/
def withD4 (l : LinkState) : State := busy.setTarget 4 fun x => { x with link := { x.link with state := l } }

theorem witness_EnableRetrainAndRestoreReturnAPort :
    ((accessing busy (command 0x10 8)).executes (command 0x10 8) .portEnable ∧
      (accessing busy (command 0x15 8)).executes (command 0x15 8) .portRetrain ∧
      portOfCode (command 0x15 8).argument.toNat = some (.target 4) ∧ (busy.link (.target 4)).state = .failed ∧
      ((withD4 .disabled).link (.target 4)).state = .disabled ∧ 10 ≤ (command 0x10 10).argument.toNat ∧
      portOfCode (command 0x10 9).argument.toNat = some (.target 5)) ∧
    ((accessing busy (command 0x14 7)).executes (command 0x14 7) .portRestore ∧
      portOfCode (command 0x14 7).argument.toNat = some (.target 3) ∧ busy.targets[3].link.state = .isolated ∧
      portOfCode (command 0x14 3).argument.toNat = some (.host 3) ∧ (3 : HPort) ≠ (command 0x14 3).port ∧ busy.hosts[3].link.state = .isolated ∧ 10 ≤ (command 0x14 10).argument.toNat ∧
      (busy.link (.target 4)).state ≠ .isolated) := by decide +kernel

/-- `busy` with grant at H1 alone, the only UP port that holds it. -/
def grantH1 : State := { busy with mgmt := { busy.mgmt with grant := 2 } }

theorem witness_PortCommandsOnAnotherPort :
    (portOfCode (command 0x12 1).argument.toNat = some (.host 1) ∧ Port.host 1 ≠ .host (command 0x12 1).port) ∧
    ((accessing busy (command 0x12 1)).executes (command 0x12 1) .portReset ∧ (busy.link (.host 1)).state ≠ .disabled ∧
      ((withD4 .disabled).link (.target 4)).state = .disabled) ∧
    ((accessing busy (command 0x11 1)).executes (command 0x11 1) .portDisable ∧ busy.withholds (.host 1) = false ∧
      grantH1.withholds (.host 1) = true) ∧
    ((accessing busy (command 0x13 1)).executes (command 0x13 1) .portIsolate ∧ (busy.link (.host 1)).state = .up ∧
      (busy.link (.host 3)).state = .isolated ∧ (busy.link (.target 4)).state ≠ .up) := by decide +kernel

/-- `calm` with H0 as given. -/
def withH0 (l : LinkState) : State := calm.setHost 0 fun x => { x with link := { x.link with state := l } }

/-- Each command of R200 on H0, taken and refused, and PORT_RESTORE on an isolated H0; with room, without, and posted. -/
theorem witness_OwnPortActionFollowsItsAnswer :
    ((accessing busy (command 0x12 0)).executes (command 0x12 0) .portReset ∧
      (accessing grantH1 (command 0x11 0)).executes (command 0x11 0) .portDisable ∧
      (accessing grantH1 (command 0x13 0)).executes (command 0x13 0) .portIsolate ∧
      (accessing (withH0 .isolated) (command 0x14 0)).executes (command 0x14 0) .portRestore ∧
      portOfCode (command 0x12 0).argument.toNat = some (.host (command 0x12 0).port)) ∧
    (busy.hosts[0].link.state = .up ∧ grantH1.withholds (.host 0) = false ∧ busy.withholds (.host 0) = true ∧
      (withH0 .disabled).hosts[0].link.state = .disabled ∧ (withH0 .isolated).hosts[0].link.state = .isolated) ∧
    ((command 0x12 0).packet.kind ≠ some .wpq ∧ { (command 0x12 0).packet with kindCode := 2 }.kind = some .wpq ∧
      calm.givesRoom 0 .management = true ∧ (full calm 0).givesRoom 0 .management = false ∧
      (withH0 .isolated).givesRoom 0 .management = true ∧ (full (withH0 .isolated) 0).givesRoom 0 .management = false) ∧
    ({ busy with mgmt := { busy.mgmt with action := some (.portReset 1) } }.mgmt.action = some (.portReset 1) ∧
      busy.hosts[1].link.state = .up ∧ busy.hosts[3].link.state = .isolated) := by decide +kernel

theorem witness_AnswersEnterBeforeTheirActions :
    (accessing calm (command 0x3F 0)).executes (command 0x3F 0) .bridgeReset ∧
    (command 0x3F 0).packet.kind ≠ some .wpq ∧ calm.hosts[0].link.state = .up ∧ calm.givesRoom 0 .management = true ∧
    (full calm 0).givesRoom 0 .management = false ∧
    (let s := { calm with mgmt := { calm.mgmt with
      unit := .answering (command 0x3F 0) (some .warmReset), answers := calm.mgmt.answers.set 0 (some (cpsPacket 7 .ok)) } }
     s.mgmt.unit = .answering (command 0x3F 0) (some .warmReset) ∧ s.mgmt.answers[(command 0x3F 0).port] = some (cpsPacket 7 .ok) ∧
       s.givesRoom 0 .management = true) ∧
    (let s := { calm with mgmt := { calm.mgmt with answers := calm.mgmt.answers.set 1 (some (cpsPacket 7 .ok)) } }
     s.mgmt.answers[1] = some (cpsPacket 7 .ok) ∧ s.givesRoom 1 .management = true ∧ s.mgmt.unit = .free) ∧
    (none : Option SelfAction) ≠ some .warmReset := by decide +kernel

/-! The recorder and the notification unit. -/

def record : FaultRecord :=
  { sequence := 0, kind := .linkLost, port := .host 0, entry := none, hostTag := none, window := none, address := none,
    generation := 0, detail := .none }

/-- A recorder with two records and a HELD snapshot. -/
def recorded : State :=
  { busy with recorder := { busy.recorder with
      queue := [record, record], snapshot := { held := true, multiple := true, record := some record, capture := none } } }

theorem witness_RecorderCommandsPopAndRelease :
    (accessing recorded (command 0x20 0)).executes (command 0x20 0) .faultPop ∧
    recorded.recorder.queue = record :: [record] ∧ busy.recorder.queue = [] ∧
    (accessing recorded (command 0x21 0)).executes (command 0x21 0) .snapshotRelease ∧
    recorded.recorder.snapshot.held = true ∧ busy.recorder.snapshot.held = false ∧
    (accessing recorded (command 0x77 0)).executes (command 0x77 0) .unknownCommand := by decide +kernel

/-- A report of each class, one whose isolation is withheld and one whose isolation is carried out; queues and lists with one
place and full. -/
theorem witness_ReportIsHandledByItsClass :
    let s (c : FaultClass) : State := { grantH1 with mgmt := { grantH1.mgmt with classes := Vector.replicate 17 c } }
    let r (p : Port) : Report := { kind := .unexpectedCompletion, port := p }
    ((s .ignore).classOf (r (.host 1)).kind = .ignore ∧ (s .record).classOf (r (.host 1)).kind = .record ∧
      (s .notify).classOf (r (.host 1)).kind = .notify ∧ (s .isolate).reportOutcome (r (.host 1)) = .withheld ∧
      (s .isolate).reportOutcome (r (.host 0)) = .carriedOut ∧
      (s .isolate).reportOutcome (r (.target 1)) = .carriedOut) ∧
    (List.replicate 15 record).length < 16 ∧ 16 ≤ (List.replicate 16 record).length ∧
      recorded.recorder.snapshot.held = true ∧ busy.recorder.snapshot.held = false ∧
      busy.notifier.items.length < 8 := by decide +kernel

theorem witness_FaultRecordsAreOnlyAppended :
    exec .snapshotRelease (accessing recorded (command 0x21 0)) =
      .next (after .snapshotRelease (accessing recorded (command 0x21 0))) ∧
    exec .faultPop (accessing recorded (command 0x20 0)) =
      .next (after .faultPop (accessing recorded (command 0x20 0))) ∧
    (∀ aps mgs, Instr.faultPop ≠ .coldReset aps mgs) ∧ Instr.snapshotRelease ≠ .faultPop ∧
    recorded.recorder.snapshot.held = true := ⟨rfl, rfl, by decide, by decide, rfl⟩

def alertItem3 : PendingItem :=
  { kind := .alert 3 .degraded 0x1234 9, source := .target 0, repeatCount := 254, sent := false }

/-- `busy` with a pending list. -/
def withItems (l : List PendingItem) : State := { busy with notifier := { busy.notifier with items := l } }

/-- An alert at its threshold and one below it; a list with an item to coalesce into, with one place left, and full. -/
theorem witness_AlertIsDiscardedCoalescedOrAppended :
    (busy.targets[0].link.state = .up ∧ busy.targets[0].link.ingress = alert :: [] ∧ alert.kind = some .alm ∧
      Severity.ofCode alert.severity = some .failing) ∧
    (Severity.info.code.toNat < busy.targets[0].threshold.code.toNat ∧
      ¬ Severity.degraded.code.toNat < busy.targets[0].threshold.code.toNat) ∧
    (withItems [alertItem3]).notifier.items = [] ++ alertItem3 :: [] ∧
    (BitVec.ofNat 16 (leNat (alert.payload.take 2)) = 0x1234) ∧
    (∀ i ∈ (withItems (List.replicate 7 { alertItem3 with sent := true })).notifier.items, i.sent ≠ false) ∧
    (withItems (List.replicate 7 alertItem3)).notifier.items.length < 8 ∧
    8 ≤ (withItems (List.replicate 8 { alertItem3 with sent := true })).notifier.items.length := by decide +kernel

theorem witness_NotificationSendMarksTheHead :
    let s := { calm with notifier := { calm.notifier with
      channel := .idle, items := [alertItem3], outstanding := none, tRnt := none } }
    s.notifier.channel = .idle ∧ s.notifier.items = alertItem3 :: [] ∧ s.hostUp s.mgmt.supervisor = true ∧
      s.givesRoom s.mgmt.supervisor .notification = true ∧ s.admission.passDue = false := by decide +kernel

/-- The re-send count one below its limit of 3, and at it; and a copy that waits. -/
theorem witness_UnacknowledgedNotificationIsResentOrStalls :
    (busy.notifier.channel = .awaitingAck ∧ busy.notifier.tRnt = some 300 ∧
      busy.notifier.outstanding = some { sequence := 4, packet := notification } ∧
      { busy.notifier with resends := 2 }.resends < busy.notifier.resendLimit ∧
      busy.notifier.resendLimit ≤ { busy.notifier with resends := 3 }.resends) ∧
    (let s := { calm with notifier := { calm.notifier with copy := some notification } }
     s.notifier.copy = some notification ∧ s.givesRoom s.mgmt.supervisor .notification = true ∧
       s.admission.passDue = false) := by decide +kernel

theorem witness_AcknowledgementEndsTheNotification :
    ((accessing busy (writeAt 0x4008 4)).executes (writeAt 0x4008 4) .acknowledge ∧
      busy.notifier.channel = .awaitingAck ∧
      busy.notifier.outstanding = some { sequence := 4, packet := notification } ∧
      bits (writeAt 0x4008 4).value 0 16 = 4 ∧ bits (writeAt 0x4008 0xFFFF).value 0 16 ≠ 4 ∧
      State.reset.notifier.channel = .disabled) ∧
    ((accessing busy (command 0x30 0)).executes (command 0x30 0) .channelRearm ∧
      { busy.notifier with channel := .stalled }.channel = .stalled ∧ busy.hostUp busy.mgmt.supervisor = true ∧
      busy.notifier.channel ≠ .stalled) := by decide +kernel

theorem witness_ChannelWritesEnableAndRedirect :
    (accessing busy (writeAt 0x118 (2 ^ 63 + 16))).executes (writeAt 0x118 (2 ^ 63 + 16)) .channelEnableWrite ∧
    (writeAt 0x118 (2 ^ 63 + 16)).value.getLsbD 63 = true ∧ (bits (writeAt 0x118 (2 ^ 63 + 16)).value 0 44).toNat % 16 = 0 ∧
    (bits (writeAt 0x118 (2 ^ 63 + 8)).value 0 44).toNat % 16 ≠ 0 ∧ (writeAt 0x118 16).value.getLsbD 63 = false ∧
    State.reset.notifier.channel = .disabled ∧ busy.notifier.channel ≠ .disabled ∧
    (accessing busy (writeAt 0x108 3)).executes (writeAt 0x108 3) .supervisorPortWrite ∧
    (bits (writeAt 0x108 3).value 0 2).toNat = 3 ∧ (3 : HPort) ≠ busy.mgmt.supervisor ∧
    (0 : HPort) = busy.mgmt.supervisor := by decide +kernel

end Sys2Proof.Tests
end

/-! PROOFS. COMMIT and RESEED_STAGING at the commit engine (R78, R80): what each reply leaves to the end of the access, what
each command does in IDLE and outside it, and the statement of O40 from these. -/

namespace Sys2Proof.Machine

/-! ## The end of a command (R199) -/

/-- A result goes into the command result word before the access completes with the answer that result has. -/
theorem endCommand_result (a : Access) (s : State) (o : CommandOutcome) :
    endCommand a (s, .result o) = .next ((s.setResult a.commandCode o).completeAccess a
      (a.statusAnswer (CommandReply.result o).status)).settle := rfl

/-- A BUSY refusal leaves the command result word as it was. -/
theorem endCommand_busy (a : Access) (s : State) :
    endCommand a (s, .busy) = .next (s.completeAccess a (a.statusAnswer .busy)).settle := rfl

/-! ## The modes (R80, R205) -/

theorem modeOf_zero : modeOf 0 = some .immediate := rfl

theorem modeOf_one : modeOf 1 = some .drain := rfl

theorem modeOf_eq_none {arg : Byte} (h0 : arg ≠ 0) (h1 : arg ≠ 1) : modeOf arg = none := by
  rw [modeOf, if_neg h0, if_neg h1]

/-! ## The commands at the engine and the banks (R78, R80) -/

theorem State.takeCommit_of_mode {s : State} {arg : Byte} {m : CommitMode} (hidle : s.commit.engine = .idle)
    (hmode : modeOf arg = some m) :
    s.takeCommit arg = ({ s with commit := { s.commit with engine := .validating m } }, .result .done) := by
  simp [State.takeCommit, hidle, hmode]

theorem State.takeCommit_of_no_mode {s : State} {arg : Byte} (hidle : s.commit.engine = .idle)
    (hmode : modeOf arg = none) : s.takeCommit arg = (s, .result .denied) := by
  simp [State.takeCommit, hidle, hmode]

theorem State.takeCommit_of_not_idle {s : State} (arg : Byte) (hbusy : s.commit.engine ≠ .idle) :
    s.takeCommit arg = (s, .busy) :=
  if_pos hbusy

theorem State.takeReseed_of_idle {s : State} (hidle : s.commit.engine = .idle) :
    s.takeReseed = ({ s with banks := { s.banks with staging := s.banks.active } }, .result .done) :=
  if_neg (not_not_intro hidle)

theorem State.takeReseed_of_not_idle {s : State} (hbusy : s.commit.engine ≠ .idle) : s.takeReseed = (s, .busy) :=
  if_pos hbusy

/-! ## The steps -/

theorem exec_commit_of_executes {s : State} {a : Access} (h : s.executes a .commit) :
    exec .commit s = endCommand a (s.takeCommit a.argument) := by
  change execCommit s = _
  rw [execCommit, State.accessFor_of_executes h]

theorem exec_reseedStaging_of_executes {s : State} {a : Access} (h : s.executes a .reseedStaging) :
    exec .reseedStaging s = endCommand a s.takeReseed := by
  change execReseedStaging s = _
  rw [execReseedStaging, State.accessFor_of_executes h]

/-- COMMIT with a legal mode in IDLE is taken (R80). -/
theorem exec_commit_taken {s : State} {a : Access} {m : CommitMode} (h : s.executes a .commit)
    (hidle : s.commit.engine = .idle) (hmode : modeOf a.argument = some m) :
    exec .commit s = .next ((State.setResult { s with commit := { s.commit with engine := .validating m } } 0x01
      .done).completeAccess a (a.statusAnswer .ok)).settle := by
  rw [exec_commit_of_executes h, State.takeCommit_of_mode hidle hmode, endCommand_result, Access.code_commit h.2]
  rfl

/-- COMMIT with a mode that names neither is refused DENIED in IDLE (R80). -/
theorem exec_commit_denied {s : State} {a : Access} (h : s.executes a .commit)
    (hidle : s.commit.engine = .idle) (hmode : modeOf a.argument = none) :
    exec .commit s = .next ((s.setResult 0x01 .denied).completeAccess a (a.statusAnswer .denied)).settle := by
  rw [exec_commit_of_executes h, State.takeCommit_of_no_mode hidle hmode, endCommand_result, Access.code_commit h.2]
  rfl

/-- COMMIT outside IDLE is refused BUSY, whatever its mode (R80). -/
theorem exec_commit_busy {s : State} {a : Access} (h : s.executes a .commit) (hbusy : s.commit.engine ≠ .idle) :
    exec .commit s = .next (s.completeAccess a (a.statusAnswer .busy)).settle := by
  rw [exec_commit_of_executes h, State.takeCommit_of_not_idle _ hbusy, endCommand_busy]

/-- RESEED_STAGING in IDLE copies the active bank into the staging bank (R78). -/
theorem exec_reseedStaging_done {s : State} {a : Access} (h : s.executes a .reseedStaging)
    (hidle : s.commit.engine = .idle) :
    exec .reseedStaging s = .next ((State.setResult { s with banks := { s.banks with staging := s.banks.active } } 0x02
      .done).completeAccess a (a.statusAnswer .ok)).settle := by
  rw [exec_reseedStaging_of_executes h, State.takeReseed_of_idle hidle, endCommand_result,
    Access.code_reseedStaging h.2]
  rfl

/-- RESEED_STAGING outside IDLE is refused BUSY (R78). -/
theorem exec_reseedStaging_busy {s : State} {a : Access} (h : s.executes a .reseedStaging)
    (hbusy : s.commit.engine ≠ .idle) :
    exec .reseedStaging s = .next (s.completeAccess a (a.statusAnswer .busy)).settle := by
  rw [exec_reseedStaging_of_executes h, State.takeReseed_of_not_idle hbusy, endCommand_busy]

/-- Settles O40: one equation for each outcome of the two commands. -/
theorem commitAndReseedAreTakenInIdle : Obligations.CommitAndReseedAreTakenInIdle := by
  intro s a ended result
  constructor
  · intro h
    refine ⟨fun hidle harg => ?immediate, fun hidle harg => ?drain, fun hidle h0 h1 => ?denied, exec_commit_busy h⟩
    case immediate => exact exec_commit_taken h hidle (by rw [harg, modeOf_zero])
    case drain => exact exec_commit_taken h hidle (by rw [harg, modeOf_one])
    case denied => exact exec_commit_denied h hidle (modeOf_eq_none h0 h1)
  · intro h
    exact ⟨exec_reseedStaging_done h, exec_reseedStaging_busy h⟩

end Sys2Proof.Machine

/-! PROOFS. The D-tag as a number and as a name (R128): what its value is, what it names read back, and what an allocation
leaves at the entry and in its target's egress queue; the statement of O25 from these. -/

namespace Sys2Proof.Machine

/-! ## The D-tag as a number (R128) -/

/-- The D-tag of the last entry in phase 1 is 255, so eight bits lose nothing. -/
@[simp] theorem dTag_toNat (e : EntryIx) (phase : Bool) : (dTag e phase).toNat = e.val * 2 + phase.toNat := by
  have hfits : e.val * 2 + phase.toNat < 2 ^ 8 := by
    have hentry := e.isLt
    have hphase := phase.toNat_le
    omega
  rw [dTag, BitVec.toNat_ofNat, Nat.mod_eq_of_lt hfits]

@[simp] theorem tagEntry_val (t : Byte) : (tagEntry t).val = t.toNat / 2 := rfl

@[simp] theorem tagPhase_toNat (t : Byte) : (tagPhase t).toNat = t.toNat % 2 := by
  rcases Nat.mod_two_eq_zero_or_one t.toNat with h | h <;> simp [tagPhase, h]

/-! ## The D-tag as a name: entry and phase are what it was built from (R128) -/

@[simp] theorem tagEntry_dTag (e : EntryIx) (phase : Bool) : tagEntry (dTag e phase) = e := by
  apply Fin.ext
  have hphase := phase.toNat_le
  rw [tagEntry_val, dTag_toNat]
  omega

@[simp] theorem tagPhase_dTag (e : EntryIx) (phase : Bool) : tagPhase (dTag e phase) = phase := by
  rw [tagPhase, dTag_toNat, Nat.mul_add_mod']
  cases phase with
  | false => rfl
  | true => rfl

/-- Every byte is the D-tag of the entry and phase it names. -/
@[simp] theorem dTag_tagEntry_tagPhase (t : Byte) : dTag (tagEntry t) (tagPhase t) = t := by
  apply BitVec.eq_of_toNat_eq
  rw [dTag_toNat, tagEntry_val, tagPhase_toNat]
  exact Nat.div_add_mod' t.toNat 2

/-! ## What an allocation leaves (R108, R128) -/

@[simp] theorem State.placeTarget_egress (s : State) (d : DPort) (p : Packet) :
    ((s.placeTarget d p).targets[d.val]).link.egress = s.targets[d.val].link.egress ++ [p] :=
  congrArg PortUnit.egress (s.setLink_self (.target d) _)

@[simp] theorem State.allocate_entry (s : State) (h : HPort) (p : Packet) (x : Admitted) (k : EntryKind) (e : EntryIx) :
    (s.allocate h p x k e).tracker.ort[e.val] =
      (s.tracker.ort[e.val]).allocated h p x k (s.deadlineFor x.target) := by
  simp only [State.allocate, State.placeTarget_tracker, State.setEntry_self]

/-- The phase an allocation toggles is the one its D-tag carries. -/
@[simp] theorem Entry.allocated_phase (y : Entry) (h : HPort) (p : Packet) (x : Admitted) (k : EntryKind)
    (deadline : Option Nat) : (y.allocated h p x k deadline).phase = !y.phase := rfl

theorem State.allocate_phase (s : State) (h : HPort) (p : Packet) (x : Admitted) (k : EntryKind) (e : EntryIx) :
    ((s.allocate h p x k e).tracker.ort[e.val]).phase = !(s.tracker.ort[e.val]).phase := by
  rw [State.allocate_entry, Entry.allocated_phase]

/-- The request sent carries the D-tag of the entry as the allocation leaves it. -/
theorem State.allocate_egress (s : State) (h : HPort) (p : Packet) (x : Admitted) (k : EntryKind) (e : EntryIx) :
    ((s.allocate h p x k e).targets[x.target.val]).link.egress = s.targets[x.target.val].link.egress ++
      [requestPacket p x (dTag e ((s.allocate h p x k e).tracker.ort[e.val]).phase)] := by
  rw [State.allocate_phase, State.allocate, State.placeTarget_egress, State.setEntry_targets]
  rfl

@[simp] theorem requestPacket_tag (p : Packet) (x : Admitted) (t : Byte) : (requestPacket p x t).tag = t := rfl

/-- Settles O25: the phase after the toggle is the one in the D-tag of the request placed, and reading a D-tag back
inverts building it. -/
theorem dTagNamesItsEntryAndPhase : Obligations.DTagNamesItsEntryAndPhase := by
  refine ⟨fun s h p x k e => ?allocation, fun e phase => ?names, fun t => ?reads⟩
  case allocation =>
    refine ⟨s.allocate_phase h p x k e, _, s.allocate_egress h p x k e, ?_, ?_⟩
    · rw [requestPacket_tag, dTag_toNat]
      rfl
    · exact Nat.le_of_lt_succ (BitVec.isLt _)
  case names => exact ⟨dTag_toNat e phase, tagEntry_dTag e phase, tagPhase_dTag e phase⟩
  case reads => exact ⟨tagEntry_val t, tagPhase_toNat t, dTag_tagEntry_tagPhase t⟩

end Sys2Proof.Machine

/-! PROOFS. FAULT_POP, SNAPSHOT_RELEASE and a code that names no command (R171, R173, R199): what the recorder's two
operations do, the end of each step from its access, and the statement of O51 from these. -/

namespace Sys2Proof.Machine

/-! ## The commands at the recorder (R171, R173) -/

/-- A removal that leaves the queue empty clears overflow; any other leaves it as it was. -/
theorem Recorder.pop_of_cons {r : Recorder} {f : FaultRecord} {rest : List FaultRecord} (hqueue : r.queue = f :: rest) :
    r.pop = ({ r with queue := rest, overflow := if rest = [] then false else r.overflow }, .done) := by
  rw [Recorder.pop, hqueue]
  cases rest with
  | nil => simp
  | cons g rest => simp

theorem Recorder.pop_of_nil {r : Recorder} (hqueue : r.queue = []) : r.pop = (r, .empty) := by
  rw [Recorder.pop, hqueue]

theorem Recorder.release_of_held {r : Recorder} (hheld : r.snapshot.held = true) :
    r.release = ({ r with snapshot := { r.snapshot with held := false, multiple := false } }, .done) :=
  if_pos hheld

theorem Recorder.release_of_empty {r : Recorder} (hempty : r.snapshot.held = false) : r.release = (r, .empty) :=
  if_neg (Bool.eq_false_iff.mp hempty)

/-! ## The steps -/

theorem exec_faultPop_of_executes {s : State} {a : Access} (h : s.executes a .faultPop) :
    exec .faultPop s = endCommand a ({ s with recorder := s.recorder.pop.1 }, .result s.recorder.pop.2) := by
  change execFaultPop s = _
  rw [execFaultPop, State.accessFor_of_executes h]

theorem exec_snapshotRelease_of_executes {s : State} {a : Access} (h : s.executes a .snapshotRelease) :
    exec .snapshotRelease s =
      endCommand a ({ s with recorder := s.recorder.release.1 }, .result s.recorder.release.2) := by
  change execSnapshotRelease s = _
  rw [execSnapshotRelease, State.accessFor_of_executes h]

theorem exec_unknownCommand_of_executes {s : State} {a : Access} (h : s.executes a .unknownCommand) :
    exec .unknownCommand s = endCommand a (s, .result .denied) := by
  change execUnknownCommand s = _
  rw [execUnknownCommand, State.accessFor_of_executes h]

/-- FAULT_POP removes the head record (R171). -/
theorem exec_faultPop_done {s : State} {a : Access} {f : FaultRecord} {rest : List FaultRecord}
    (h : s.executes a .faultPop) (hqueue : s.recorder.queue = f :: rest) :
    exec .faultPop s = .next ((State.setResult { s with recorder := { s.recorder with
      queue := rest, overflow := if rest = [] then false else s.recorder.overflow } } 0x20
      .done).completeAccess a (a.statusAnswer .ok)).settle := by
  rw [exec_faultPop_of_executes h, Recorder.pop_of_cons hqueue, endCommand_result, Access.code_faultPop h.2]
  rfl

/-- FAULT_POP on an empty queue shows EMPTY and leaves the recorder as it was (R171). -/
theorem exec_faultPop_empty {s : State} {a : Access} (h : s.executes a .faultPop) (hqueue : s.recorder.queue = []) :
    exec .faultPop s = .next ((s.setResult 0x20 .empty).completeAccess a (a.statusAnswer .ok)).settle := by
  rw [exec_faultPop_of_executes h, Recorder.pop_of_nil hqueue, endCommand_result, Access.code_faultPop h.2]
  rfl

/-- SNAPSHOT_RELEASE empties a HELD snapshot and clears its flag (R173). -/
theorem exec_snapshotRelease_done {s : State} {a : Access} (h : s.executes a .snapshotRelease)
    (hheld : s.recorder.snapshot.held = true) :
    exec .snapshotRelease s = .next ((State.setResult { s with recorder := { s.recorder with
      snapshot := { s.recorder.snapshot with held := false, multiple := false } } } 0x21
      .done).completeAccess a (a.statusAnswer .ok)).settle := by
  rw [exec_snapshotRelease_of_executes h, Recorder.release_of_held hheld, endCommand_result,
    Access.code_snapshotRelease h.2]
  rfl

/-- SNAPSHOT_RELEASE of an EMPTY snapshot shows EMPTY and leaves the recorder as it was (R173). -/
theorem exec_snapshotRelease_empty {s : State} {a : Access} (h : s.executes a .snapshotRelease)
    (hempty : s.recorder.snapshot.held = false) :
    exec .snapshotRelease s = .next ((s.setResult 0x21 .empty).completeAccess a (a.statusAnswer .ok)).settle := by
  rw [exec_snapshotRelease_of_executes h, Recorder.release_of_empty hempty, endCommand_result,
    Access.code_snapshotRelease h.2]
  rfl

/-- A code that names no command is refused DENIED, and the result word shows the code as it was written (R199). -/
theorem exec_unknownCommand_denied {s : State} {a : Access} (h : s.executes a .unknownCommand) :
    exec .unknownCommand s =
      .next ((s.setResult a.commandCode .denied).completeAccess a (a.statusAnswer .denied)).settle := by
  rw [exec_unknownCommand_of_executes h, endCommand_result]
  rfl

/-- Settles O51: one equation for each outcome of the two commands, and one for a code that names no command. -/
theorem recorderCommandsPopAndRelease : Obligations.RecorderCommandsPopAndRelease := by
  intro s a ended
  refine ⟨fun h => ?pop, fun h => ?release, exec_unknownCommand_denied⟩
  case pop => exact ⟨fun _ _ => exec_faultPop_done h, exec_faultPop_empty h⟩
  case release => exact ⟨exec_snapshotRelease_done h, exec_snapshotRelease_empty h⟩

end Sys2Proof.Machine

/-! PROOFS. What one command may do to the machine, as a chain of small changes: `Calm` changes touch queues, lists,
conditions and records and leave every port state, every ORT entry and the commit engine alone; `Micro` adds the changes of
those, each with the guard under which the model takes it. Every command is a chain of them (`exec_evolves`), so that what
each small change keeps, every step keeps. -/

namespace Sys2Proof.Machine

-- One proof at a time: side by side they take more memory than the check allows.
set_option Elab.async false

/-! ## Small changes -/

/-- A change of a port unit's queues: the state, the training and the attempt limit stay. `cap` is the egress capacity. -/
inductive QueueStep (cap : Nat) (u : PortUnit) : PortUnit → Prop
  | same : QueueStep cap u u
  | pop : QueueStep cap u { u with ingress := u.ingress.tail }
  | arrive (x : Packet) : u.state.carries = true → u.ingress.length < 16 →
      QueueStep cap u { u with ingress := u.ingress ++ [x] }
  | place (x : Packet) : u.state.carries = true → u.egress.length < cap →
      QueueStep cap u { u with egress := u.egress ++ [x] }
  | depart (l : List Packet) : l.Sublist u.egress → QueueStep cap u { u with egress := l }

/-- A change of a port unit's state, with the guard of R20, R25 to R28 and R37. -/
inductive StateStep (u : PortUnit) : PortUnit → Prop
  | attempt (m : Nat) : u.state = .down ∨ u.state = .training →
      StateStep u { u with state := .training, attempts := u.attempts + 1, tTrn := some m }
  | trained : u.state = .training → StateStep u { u with state := .up, tTrn := none }
  | failed : u.state = .training → StateStep u { u with state := .failed, tTrn := none }
  | returned : u.state = .disabled ∨ u.state = .failed → StateStep u { u with state := .down, attempts := 0 }
  | restored : u.state = .isolated → StateStep u { u with state := .up }
  | isolated : u.state = .up → StateStep u { u with state := .isolated }
  | left (l : LinkState) : u.state = .up ∨ u.state = .isolated → l ≠ .up → l ≠ .training →
      StateStep u { u.emptied with state := l }
  | closed (l : LinkState) : l ≠ .up → l ≠ .training → StateStep u (u.closed l)

/-- A host port whose queues change and whose limits stay. -/
def HostPort.Calm (x y : HostPort) : Prop :=
  QueueStep Config.hostEgressCapacity x.link y.link ∧ y.outstandingLimit = x.outstandingLimit

/-- A target port whose queues change and whose configuration stays. -/
def TargetPort.Calm (x y : TargetPort) : Prop :=
  QueueStep Config.targetEgressCapacity x.link y.link ∧ TargetPort.SameConfig x y

/-- A change of the notification unit that keeps its settings (R180, R181, R183, R186 to R191). -/
inductive NotifierStep (n : Notifier) : Notifier → Prop
  | send (i : PendingItem) (rest : List PendingItem) (q : Seq) (o : Outstanding) (m : Nat) :
      n.channel = .idle → n.items = i :: rest →
      NotifierStep n { n with
        items := { i with sent := true } :: rest, channel := .awaitingAck, sequence := q, outstanding := some o,
        resends := 0, tRnt := some m, noticesLost := false }
  | append (i : PendingItem) : n.items.length < Config.pendingCapacity → i.sent = false →
      NotifierStep n { n with items := n.items ++ [i] }
  | coalesce (d : DPort) (p : Packet) : NotifierStep n { n with items := coalesceInto d p n.items }
  | lost : NotifierStep n { n with noticesLost := true }
  | noCopy : NotifierStep n { n with copy := none }
  | copied (p : Packet) : n.channel = .awaitingAck → NotifierStep n { n with copy := some p }
  | restarted (r m : Nat) : n.channel = .awaitingAck ∨ n.channel = .stalled →
      NotifierStep n { n with channel := .awaitingAck, resends := r, tRnt := some m }
  | stalled : n.channel = .awaitingAck → NotifierStep n { n with channel := .stalled, tRnt := none, copy := none }
  | acknowledged : NotifierStep n n.acknowledged
  | disabled : NotifierStep n n.disabled
  | enabled : n.channel = .disabled → NotifierStep n { n with channel := .idle }

/-- The management unit with its settings kept. -/
def Management.SameSettings (m k : Management) : Prop :=
  k.apertureBase = m.apertureBase ∧ k.grant = m.grant ∧ k.supervisor = m.supervisor ∧ k.classes = m.classes

/-- What stands in a host's answer list and waits as a final packet for it at ingress heads. -/
def Tracker.owing (t : Tracker) (h : HPort) : Nat := (t.answers[h]).length + t.finalsWaiting h

/-- The management unit's access, its action and its waiting answers as they were. -/
def Management.SameWork (m k : Management) : Prop := k.unit = m.unit ∧ k.action = m.action ∧ k.answers = m.answers

/-- One small change that leaves port states, training, ORT entries, banks and the commit engine alone. With `grow` false
no host comes to be owed more; with `move` false no host's ingress queue, no head condition and no access or waiting answer
of the management unit changes. -/
inductive Calm (grow move : Prop) (s : State) : State → Prop
  | ports (hs : Vector HostPort 4) (ts : Vector TargetPort 6) : (∀ h : HPort, HostPort.Calm s.hosts[h] hs[h]) →
      (∀ d : DPort, TargetPort.Calm s.targets[d] ts[d]) →
      (move ∨ ∀ h : HPort, (hs[h]).link.ingress = (s.hosts[h]).link.ingress) →
      Calm grow move s { s with hosts := hs, targets := ts }
  | admission (a : Admission) : (move ∨ a.heads = s.admission.heads) → Calm grow move s { s with admission := a }
  | lists (t : Tracker) : t.ort = s.tracker.ort → (grow ∨ ∀ h, t.owing h ≤ s.tracker.owing h) →
      Calm grow move s { s with tracker := t }
  | mgmt (m : Management) : s.mgmt.SameSettings m → (move ∨ s.mgmt.SameWork m) → Calm grow move s { s with mgmt := m }
  | enqueued (f : FaultRecord) : Calm grow move s { s with recorder := s.recorder.enqueue f }
  | snapped (f : FaultRecord) (c : Option HeaderCapture) : Calm grow move s { s with recorder := s.recorder.snap f c }
  | notifier (n : Notifier) : NotifierStep s.notifier n → Calm grow move s { s with notifier := n }

/-- A chain of calm changes. -/
def Calms (grow move : Prop) : State → State → Prop := Relation.ReflTransGen (Calm grow move)

/-- A change of one ORT entry other than its allocation, with the guard under which it is taken (R124, R126, R137). -/
inductive EntryStep (e : Entry) : Entry → Prop
  | same : EntryStep e e
  | marked : e.state = .waiting → EntryStep e { e with sent := true }
  | orphaned : e.inFlight = true → EntryStep e { e with orphaned := true }
  | freed : EntryStep e e.freed
  | delivered (n : Nat) : EntryStep e { e.freed with delivered := n }
  | expired : e.inFlight = true → e.sent = false → EntryStep e { e with state := .free }
  | quarantined (m : Nat) : e.inFlight = true → e.sent = true → EntryStep e (e.quarantinedUntil m)
  | progress (n : Nat) : e.inFlight = true → e.sent = true → e.kind = .read → 1 ≤ n →
      e.delivered + n < e.length.toNat →
      EntryStep e { e with state := .receiving, delivered := e.delivered + n }

/-- A register write of a setting with a value in its range (R41, R96, R165, R190, R191, R193, R195, R197). -/
inductive SettingWrite (s : State) : State → Prop
  | grant (v : BitVec 4) : v ≠ 0 → SettingWrite s { s with mgmt := { s.mgmt with grant := v } }
  | base (v : Block) : SettingWrite s { s with mgmt := { s.mgmt with apertureBase := v } }
  | supervisor (h : HPort) : SettingWrite s { s with mgmt := { s.mgmt with supervisor := h } }
  | faultClass (k : FaultKind) (c : FaultClass) : k.allows c = true →
      SettingWrite s { s with mgmt := { s.mgmt with classes := s.mgmt.classes.set k.code c } }
  | hostLimits (h : HPort) (n m : Nat) : 1 ≤ n → n ≤ 4 → 1 ≤ m → m ≤ 128 →
      SettingWrite s (s.setHost h fun x => { x with link := { x.link with attemptLimit := n }, outstandingLimit := m })
  | attemptLimit (d : DPort) (n : Nat) : 1 ≤ n → n ≤ 4 →
      SettingWrite s (s.setTarget d fun x => { x with link := { x.link with attemptLimit := n } })
  | targetConfig (d : DPort) (m : Nat) (c : Fin 8) (t : Severity) (b : Bool) : m ∈ [1, 4, 16, 64, 128] →
      SettingWrite s (s.setTarget d fun x =>
        { x with outstandingLimit := m, timeoutCode := c, threshold := t, isolateOnFailing := b })
  | address (a : Addr) : a.toNat % 16 = 0 → SettingWrite s { s with notifier := { s.notifier with address := a } }
  | tRntCode (n : Nat) : n ≤ 6 → SettingWrite s { s with notifier := { s.notifier with tRntCode := n } }
  | resendLimit (n : Nat) : n ≤ 7 → SettingWrite s { s with notifier := { s.notifier with resendLimit := n } }
  | drainDeadline (n : Nat) : 1 ≤ n → n ≤ 255 →
      SettingWrite s { s with commit := { s.commit with drainDeadline := n } }

/-- The swap without its wake event (R91). -/
def State.swapped (s : State) : State :=
  ({ s with banks := { s.banks with active := s.banks.staging, generation := s.banks.generation + 1 } }).endCommit
    { code := .done, first := none, second := none, generation := s.banks.generation + 1 }

/-- One small change that command `c` may make. -/
inductive Micro (c : Instr) (s : State) : State → Prop
  | calm {t : State} : Calm True True s t → Micro c s t
  | state (p : Port) (u : PortUnit) : StateStep (s.link p) u → Micro c s (s.setLink p fun _ => u)
  | entries (ort : Vector Entry 128) : (∀ e : EntryIx, EntryStep s.tracker.ort[e] ort[e]) →
      Micro c s { s with tracker := { s.tracker with ort := ort } }
  | allocate (h : HPort) (p : Packet) (x : Admitted) (k : EntryKind) (e : EntryIx) (m : Option Nat) :
      (k ≠ .writeConverted → s.tracker.tagHolder h p.tag = none) → s.targetUp x.target = true →
      (s.tracker.ort[e]).state = .free →
      Micro c s (s.setEntry e fun y => y.allocated h p x k m)
  | time (m : Nat) : s.now ≤ m → Micro c s { s with now := m }
  | swap : s.commit.engine = .draining ∨ ((∃ m, s.commit.engine = .validating m) ∧ s.banks.staging.validate = none) →
      Micro c s s.swapped
  | endCommit (r : CommitResult) : s.commit.engine ≠ .idle → Micro c s (s.endCommit r)
  | beginDrain : (∃ m, s.commit.engine = .validating m) → s.banks.staging.validate = none →
      s.tracker.inFlightCount ≠ 0 → Micro c s s.beginDrain
  | takeCommit (m : CommitMode) : c = .commit → s.commit.engine = .idle →
      Micro c s { s with commit := { s.commit with engine := .validating m } }
  | staging (b : Bank) : c = .stagingWrite ∨ c = .reseedStaging → s.commit.engine = .idle →
      Micro c s { s with banks := { s.banks with staging := b } }
  | pop : c = .faultPop → Micro c s { s with recorder := s.recorder.pop.1 }
  | release : c = .snapshotRelease → Micro c s { s with recorder := s.recorder.release.1 }
  | write {t : State} : c.writesSettings = true → SettingWrite s t → Micro c s t
  | warm : c = .warmReset → Micro c s s.warm
  | cold (aps mgs : BitVec 2) : c = .coldReset aps mgs →
      Micro c s { State.resetWith aps mgs with now := s.now, pending := s.pending }

/-- A chain of small changes that command `c` may make. -/
def Micros (c : Instr) : State → State → Prop := Relation.ReflTransGen (Micro c)

/-! ## Chains -/

theorem Calms.refl (g m : Prop) (s : State) : Calms g m s s := Relation.ReflTransGen.refl

theorem Calms.trans {g m : Prop} {s t u : State} (h : Calms g m s t) (k : Calms g m t u) : Calms g m s u :=
  Relation.ReflTransGen.trans h k

theorem Calm.one {g m : Prop} {s t : State} (h : Calm g m s t) : Calms g m s t := Relation.ReflTransGen.single h

/-- What no host is owed more by is also a calm change without that restriction. -/
theorem Calm.mono {g m : Prop} {s t : State} (h : Calm g m s t) : Calm True True s t := by
  cases h with
  | ports hs ts h1 h2 _ => exact .ports hs ts h1 h2 (.inl trivial)
  | admission a _ => exact .admission a (.inl trivial)
  | lists t h1 _ => exact .lists t h1 (.inl trivial)
  | mgmt m h1 _ => exact .mgmt m h1 (.inl trivial)
  | enqueued f => exact .enqueued f
  | snapped f c => exact .snapped f c
  | notifier n h1 => exact .notifier n h1

theorem Calms.mono {g m : Prop} {s t : State} (h : Calms g m s t) : Calms True True s t :=
  Relation.ReflTransGen.mono (p := Calm True True) (fun _ _ => Calm.mono) _ _ h

theorem Micros.refl (c : Instr) (s : State) : Micros c s s := Relation.ReflTransGen.refl

theorem Micros.trans {c : Instr} {s t u : State} (h : Micros c s t) (k : Micros c t u) : Micros c s u :=
  Relation.ReflTransGen.trans h k

theorem Micros.one {c : Instr} {s t : State} (h : Micro c s t) : Micros c s t := Relation.ReflTransGen.single h

theorem Calms.micros {g m : Prop} {s t : State} (c : Instr) (h : Calms g m s t) : Micros c s t :=
  Relation.ReflTransGen.mono (p := Micro c) (fun _ _ k => Micro.calm (Calm.mono k)) _ _ h

/-- What every small change keeps, a chain keeps. -/
theorem Micros.keeps {c : Instr} {I : State → Prop} (hI : ∀ s t, Micro c s t → I s → I t) {s t : State}
    (h : Micros c s t) (hs : I s) : I t := by
  induction h with
  | refl => exact hs
  | tail _ hm ih => exact hI _ _ hm ih

/-- What every calm change keeps, a chain of them keeps. -/
theorem Calms.keeps {g m : Prop} {I : State → Prop} (hI : ∀ s t, Calm g m s t → I s → I t) {s t : State}
    (h : Calms g m s t) (hs : I s) : I t := by
  induction h with
  | refl => exact hs
  | tail _ hm ih => exact hI _ _ hm ih

/-! ## Updates of one part as small changes -/

variable {g m : Prop} (s : State)

/-- Two updates of one host port are one. -/
theorem State.setHost_setHost (h : HPort) (f k : HostPort → HostPort) :
    (s.setHost h f).setHost h k = s.setHost h fun x => k (f x) := by
  simp [State.setHost]

theorem HostPort.Calm.refl (x : HostPort) : HostPort.Calm x x := ⟨.same, rfl⟩

theorem TargetPort.Calm.refl (x : TargetPort) : TargetPort.Calm x x := ⟨.same, .refl x⟩

theorem State.setHost_calm (h : HPort) (f : HostPort → HostPort) (hf : HostPort.Calm s.hosts[h] (f s.hosts[h]))
    (hi : m ∨ (f s.hosts[h]).link.ingress = (s.hosts[h]).link.ingress) : Calms g m s (s.setHost h f) := by
  have hother : ∀ k : HPort, k ≠ h → (s.setHost h f).hosts[k] = s.hosts[k] := fun k e => s.setHost_other h k f e
  refine Calm.one (.ports (s.setHost h f).hosts s.targets (fun k => ?_) (fun _ => .refl _) (hi.imp_right fun hi k => ?_))
  · by_cases e : k = h
    · subst e; simpa using hf
    · rw [hother k e]; exact .refl _
  · by_cases e : k = h
    · subst e; simpa using hi
    · rw [hother k e]

theorem State.setTarget_calm (d : DPort) (f : TargetPort → TargetPort)
    (hf : TargetPort.Calm s.targets[d] (f s.targets[d])) : Calms g m s (s.setTarget d f) := by
  refine Calm.one (.ports s.hosts _ (fun _ => .refl _) (fun k => ?_) (.inr fun _ => rfl))
  by_cases e : k = d
  · subst e; simpa using hf
  · have : d.val ≠ k.val := fun e' => e (Fin.ext e'.symm)
    simpa [Vector.getElem_set_ne, this] using TargetPort.Calm.refl _

/-- A port's egress capacity (R29). -/
def Port.egressCapacity : Port → Nat
  | .host _ => Config.hostEgressCapacity
  | .target _ => Config.targetEgressCapacity

/-- No queue step changes a port unit's state, training or attempt limit. -/
theorem QueueStep.kept {cap : Nat} {u v : PortUnit} (h : QueueStep cap u v) :
    v.state = u.state ∧ v.attempts = u.attempts ∧ v.tTrn = u.tTrn ∧ v.attemptLimit = u.attemptLimit := by
  cases h <;> exact ⟨rfl, rfl, rfl, rfl⟩

theorem State.setLink_calm (p : Port) (f : PortUnit → PortUnit)
    (hf : QueueStep (Port.egressCapacity p) (s.link p) (f (s.link p)))
    (hi : m ∨ ∀ h, p = .host h → (f (s.link p)).ingress = (s.link p).ingress) : Calms g m s (s.setLink p f) := by
  cases p with
  | host h => exact s.setHost_calm h (fun x => { x with link := f x.link }) ⟨hf, rfl⟩ (hi.imp_right fun hi => hi h rfl)
  | target d =>
    exact s.setTarget_calm d (fun x => { x with link := f x.link }) ⟨hf, hf.kept.2.2.2, rfl, rfl, rfl, rfl⟩

/-- Updates of a host port unit beside its link and its limits: the class pointer and the isolated wait. -/
theorem State.setHost_flags_calm (h : HPort) (f : HostPort → HostPort) (hl : ∀ x, (f x).link = x.link)
    (ho : ∀ x, (f x).outstandingLimit = x.outstandingLimit) : Calms g m s (s.setHost h f) :=
  s.setHost_calm h f ⟨hl _ ▸ .same, ho _⟩ (.inr (by rw [hl]))

theorem State.popIngress_calm (p : Port) : Calms g True s (s.popIngress p) := s.setLink_calm p _ .pop (.inl trivial)

theorem State.popTarget_calm (d : DPort) : Calms g m s (s.popIngress (.target d)) :=
  s.setLink_calm (.target d) _ .pop (.inr fun _ e => by cases e)

theorem State.admission_calm (a : Admission) (h : m ∨ a.heads = s.admission.heads) :
    Calms g m s { s with admission := a } := Calm.one (.admission a h)

theorem State.setHead_calm (h : HPort) (x : HeadCondition) : Calms g True s (s.setHead h x) :=
  s.admission_calm _ (.inl trivial)

theorem State.wake_calm : Calms g m s s.wake := s.admission_calm _ (.inr rfl)

theorem State.wakeTarget_calm (p : Port) : Calms g m s (s.wakeTarget p) := by
  cases p
  · exact .refl g m s
  · exact s.wake_calm

theorem State.mgmt_calm (k : Management) (h : s.mgmt.SameSettings k) (hw : m ∨ s.mgmt.SameWork k) :
    Calms g m s { s with mgmt := k } :=
  Calm.one (.mgmt k h hw)

theorem State.admission_mgmt_calm (a : Admission) (k : Management) (h : s.mgmt.SameSettings k) :
    Calms g True s { s with admission := a, mgmt := k } :=
  (s.admission_calm a (.inl trivial)).trans (State.mgmt_calm { s with admission := a } k h (.inl trivial))

theorem State.setResult_calm (b : Byte) (o : CommandOutcome) : Calms g m s (s.setResult b o) :=
  s.mgmt_calm _ ⟨rfl, rfl, rfl, rfl⟩ (.inr ⟨rfl, rfl, rfl⟩)

theorem State.clearAnswer_calm (h : HPort) : Calms g True s (s.clearAnswer h) :=
  s.mgmt_calm _ ⟨rfl, rfl, rfl, rfl⟩ (.inl trivial)

theorem State.emptyLatch_calm (h : HPort) : Calms g m s (s.emptyLatch h) :=
  s.mgmt_calm _ ⟨rfl, rfl, rfl, rfl⟩ (.inr ⟨rfl, rfl, rfl⟩)

theorem State.clearAction_calm : Calms g True s s.clearAction := s.mgmt_calm _ ⟨rfl, rfl, rfl, rfl⟩ (.inl trivial)

/-! ## Egress room and the tracker's lists -/

/-- Room given to a class is room in the queue of a port that carries packets (R30, R31). -/
theorem State.hostHasRoom_of_givesRoom {s : State} {h : HPort} {c : EgressClass} (hr : s.givesRoom h c = true) :
    s.hostHasRoom h = true := by
  simp only [State.givesRoom, Bool.and_eq_true] at hr
  exact hr.1

theorem State.hostHasRoom_iff (s : State) (h : HPort) : s.hostHasRoom h = true ↔
    s.hosts[h].link.state.carries = true ∧ s.hosts[h].link.egress.length < Config.hostEgressCapacity := by
  simp [State.hostHasRoom]

theorem State.placeHost_calm (h : HPort) (c : EgressClass) (p : Packet) (hr : s.hostHasRoom h = true) :
    Calms g m s (s.placeHost h c p) := by
  obtain ⟨hc, hl⟩ := (s.hostHasRoom_iff h).1 hr
  exact s.setHost_calm h _ ⟨.place p hc hl, rfl⟩ (.inr rfl)

/-- A count over a vector is a count over its indices. -/
theorem Vector.countP_toList_eq {α : Type} {n : Nat} (v : Vector α n) (p : α → Bool) :
    v.toList.countP p = (List.finRange n).countP fun i => p v[i] := by
  have : v.toList = (List.finRange n).map fun i => v[i] := by
    apply List.ext_getElem <;> simp
  rw [this, List.countP_map]
  rfl

/-- A vector whose elements satisfy a predicate only where another's do has no more of them. -/
theorem Vector.countP_toList_le {α : Type} {n : Nat} (v w : Vector α n) (p : α → Bool)
    (h : ∀ i : Fin n, p v[i] = true → p w[i] = true) : v.toList.countP p ≤ w.toList.countP p := by
  rw [Vector.countP_toList_eq, Vector.countP_toList_eq]
  exact List.countP_mono_left fun i _ hi => h i hi

/-- Fewer answers and packets waiting: the host is owed no more. -/
theorem Tracker.owing_le {t u : Tracker} (h : HPort) (ha : (u.answers[h]).length ≤ (t.answers[h]).length)
    (hw : ∀ d : DPort, u.waiting[d] = t.waiting[d] ∨ u.waiting[d] = none) : u.owing h ≤ t.owing h := by
  refine Nat.add_le_add ha (Vector.countP_toList_le _ _ _ fun d hd => ?_)
  rcases hw d with e | e <;> rw [e] at hd
  · exact hd
  · simp at hd

theorem State.placeTracker_calm (h : HPort) : Calms g m s (s.placeTracker h) := by
  unfold State.placeTracker
  split
  case isFalse => exact .refl g m s
  case isTrue hr =>
    have hroom := State.hostHasRoom_of_givesRoom hr
    split
    · exact .refl g m s
    · next d p _ =>
      refine (s.placeHost_calm h .tracker p.packet hroom).trans (Calms.trans ?_ (State.popTarget_calm _ _))
      refine Calm.one (.lists _ ?_ (.inr fun k => ?_))
      · rfl
      refine Tracker.owing_le k (Nat.le_refl _) fun c => ?_
      by_cases e : c = d
      · subst e; simp
      · have : d.val ≠ c.val := fun e' => e (Fin.ext e'.symm)
        simp [Vector.getElem_set_ne, this]
    · next d a _ =>
      refine (s.placeHost_calm h .tracker (cpsPacket a.hostTag a.status) hroom).trans
        (Calms.trans ?_ (State.wake_calm _))
      refine Calm.one (.lists _ ?_ (.inr fun k => ?_))
      · rfl
      refine Tracker.owing_le k ?_ fun c => .inl rfl
      by_cases e : k = h
      · subst e; simpa [Tracker.pointPast] using List.length_erase_le
      · have : h.val ≠ k.val := fun e' => e (Fin.ext e'.symm)
        simp [Vector.getElem_set_ne, this]

theorem State.appendAnswer_calm (h : HPort) (tag : Byte) (st : Status) (d : DPort) :
    Calms True m s (s.appendAnswer h tag st d) := by
  refine Calms.trans ?_ (State.placeTracker_calm _ h)
  exact Calm.one (.lists { s.tracker with answers := _, nextOrder := _ } rfl (.inl trivial))

theorem State.produce_calm (d : DPort) (h : HPort) (p : Packet) : Calms True m s (s.produce d h p) := by
  refine Calms.trans ?_ (State.placeTracker_calm _ h)
  exact Calm.one (.lists { s.tracker with waiting := _, nextOrder := _ } rfl (.inl trivial))

theorem State.answerAll_calm (d : DPort) (l : List (HPort × Byte)) : Calms True m s (s.answerAll d l) := by
  unfold State.answerAll
  induction l generalizing s with
  | nil => exact .refl True m s
  | cons x l ih => exact (s.appendAnswer_calm x.1 x.2 .unreachable d).trans (ih _)

/-- Removing the packets that wait for a host port removes their completions (R153). -/
theorem State.withdrawWaiting_calm (h : HPort) : Calms g m s (s.withdrawWaiting h) := by
  have hports : Calm g m s { s with targets := (s.withdrawWaiting h).targets } := by
    refine .ports s.hosts _ (fun _ => .refl _) (fun d => ?_) (.inr fun _ => rfl)
    simp only [State.withdrawWaiting, Fin.getElem_fin, Vector.getElem_ofFn]
    split
    · exact ⟨.pop, rfl, rfl, rfl, rfl, rfl⟩
    · exact .refl _
  have hlists : Calm g m { s with targets := (s.withdrawWaiting h).targets } (s.withdrawWaiting h) := by
    refine .lists (s.withdrawWaiting h).tracker rfl (.inr fun k => Tracker.owing_le k (Nat.le_refl _) fun d => ?_)
    simp only [State.withdrawWaiting, Fin.getElem_fin, Vector.getElem_ofFn]
    split
    · exact .inr rfl
    · exact .inl rfl
  exact (Calm.one hports).trans (Calm.one hlists)

/-! ## The channel and the recorder -/

theorem State.sendNotification_calm : Calms g m s s.sendNotification := by
  unfold State.sendNotification
  split
  case isFalse => exact .refl g m s
  case isTrue hr =>
    simp only [Bool.and_eq_true, State.sendWaits, beq_iff_eq] at hr
    split
    · exact .refl g m s
    · next i rest hi =>
      exact (s.placeHost_calm _ _ _ (State.hostHasRoom_of_givesRoom hr.2)).trans
        (Calm.one (.notifier _ (.send i rest _ _ _ hr.1.1.1 hi)))

theorem State.placeCopy_calm : Calms g m s s.placeCopy := by
  unfold State.placeCopy
  split
  · exact .refl g m s
  · split
    · next hr =>
      exact (s.placeHost_calm _ _ _ (State.hostHasRoom_of_givesRoom hr)).trans (Calm.one (.notifier _ .noCopy))
    · exact .refl g m s

theorem State.presentCopy_calm (h : s.notifier.channel = .awaitingAck) : Calms g m s s.presentCopy := by
  unfold State.presentCopy
  split
  · exact .refl g m s
  · split
    · exact (Calm.one (.notifier _ (.copied _ h))).trans (State.placeCopy_calm _)
    · exact Calm.one (.notifier _ .noCopy)

theorem State.restartRnt_calm (n : Nat) (h : s.notifier.channel = .awaitingAck ∨ s.notifier.channel = .stalled) :
    Calms g m s (s.restartRnt n) := Calm.one (.notifier _ (.restarted n _ h))

theorem State.withdrawCopy_calm (h : HPort) : Calms g m s (s.withdrawCopy h) := by
  unfold State.withdrawCopy
  split
  · exact Calm.one (.notifier _ .noCopy)
  · exact .refl g m s

theorem State.appendItem_calm (i : PendingItem) (hl : s.listHasRoom = true) (hi : i.sent = false) :
    Calms g m s (s.appendItem i) :=
  (Calm.one (.notifier _ (.append i (by simpa [State.listHasRoom] using hl) hi))).trans (State.sendNotification_calm _)

theorem State.notice_calm (k : FaultKind) (p : Port) (q : Seq) : Calms g m s (s.notice k p q) := by
  unfold State.notice
  split
  · next h => exact s.appendItem_calm _ h rfl
  · exact Calm.one (.notifier _ .lost)

theorem State.queueRecord_calm (f : FaultRecord) : Calms g m s (s.queueRecord f) := Calm.one (.enqueued f)

theorem State.snapAndNotice_calm (f : FaultRecord) (c : Option HeaderCapture) : Calms g m s (s.snapAndNotice f c) :=
  (Calm.one (.snapped f c)).trans (State.notice_calm _ _ _ _)

/-- The state at a report: the port isolated where the isolation is carried out (R37, R167). -/
def State.isolatedBy (s : State) (r : Report) : State :=
  if s.reportOutcome r = .carriedOut then s.setLink r.port fun u => { u with state := .isolated } else s

/-- Beside an isolation, a report touches the recorder and the channel alone. -/
theorem State.takeReport_calm (r : Report) : Calms g m (s.isolatedBy r) (s.takeReport r) := by
  unfold State.takeReport
  change Calms g m (s.isolatedBy r) (match s.classOf r.kind with
    | .ignore => s.isolatedBy r
    | .record => (s.isolatedBy r).queueRecord _
    | .notify => ((s.isolatedBy r).queueRecord _).snapAndNotice _ _
    | .isolate => ((s.isolatedBy r).queueRecord _).snapAndNotice _ _)
  cases s.classOf r.kind with
  | ignore => exact .refl g m _
  | record => exact State.queueRecord_calm _ _
  | notify => exact (State.queueRecord_calm _ _).trans (State.snapAndNotice_calm _ _ _)
  | isolate => exact (State.queueRecord_calm _ _).trans (State.snapAndNotice_calm _ _ _)

/-! ## The end of an access -/

theorem State.leaveHeld_calm (h : HPort) : Calms g True s (s.leaveHeld h) := by
  unfold State.leaveHeld
  split
  · exact s.setHead_calm h _
  · exact .refl g True s

theorem State.freeUnit_calm (h : HPort) : Calms g True s (s.freeUnit h) :=
  ((s.mgmt_calm { s.mgmt with unit := .free } ⟨rfl, rfl, rfl, rfl⟩ (.inl trivial)).trans (State.leaveHeld_calm _ h)).trans
    (State.wake_calm _)

theorem State.completeSelf_calm (a : Access) (x : Option SelfAction) : Calms g True s (s.completeSelf a x) := by
  refine (s.mgmt_calm { s.mgmt with action := x } ⟨rfl, rfl, rfl, rfl⟩ (.inl trivial)).trans ?_
  unfold State.completeSelf
  simp only
  split
  · exact (State.setResult_calm _ _ _).trans (State.freeUnit_calm _ _)
  · exact State.freeUnit_calm _ _

theorem State.answerGone_calm (h : HPort) : Calms g True s (s.answerGone h) := by
  unfold State.answerGone
  split
  · split
    · exact s.completeSelf_calm _ _
    · exact .refl g True s
  · exact .refl g True s

theorem State.enterAnswer_calm (h : HPort) : Calms g True s (s.enterAnswer h) := by
  unfold State.enterAnswer
  split
  · exact .refl g True s
  · split
    · next hr =>
      exact (((s.placeHost_calm h _ _ (State.hostHasRoom_of_givesRoom hr)).trans (State.clearAnswer_calm _ h)).trans
        (State.wake_calm _)).trans (State.answerGone_calm _ h)
    · exact .refl g True s

theorem State.discardAnswer_calm (h : HPort) : Calms g True s (s.discardAnswer h) := by
  unfold State.discardAnswer
  split
  · exact .refl g True s
  · exact (s.clearAnswer_calm h).trans (State.answerGone_calm _ h)

theorem State.presentAnswer_calm (h : HPort) (p : Option Packet) : Calms g True s (s.presentAnswer h p) := by
  unfold State.presentAnswer
  split
  · exact .refl g True s
  · split
    · refine Calms.trans (s.mgmt_calm _ ?_ (.inl trivial)) (State.enterAnswer_calm _ h)
      exact ⟨rfl, rfl, rfl, rfl⟩
    · exact .refl g True s

theorem State.completeAccess_calm (a : Access) (p : Option Packet) : Calms g True s (s.completeAccess a p) :=
  (s.presentAnswer_calm a.port p).trans (State.freeUnit_calm _ _)

theorem State.beginSelf_calm (a : Access) (st : Status) (x : Option SelfAction) : Calms g True s (s.beginSelf a st x) := by
  unfold State.beginSelf
  split
  · split
    · refine Calms.trans (s.mgmt_calm _ ?_ (.inl trivial)) (State.presentAnswer_calm _ _ _)
      exact ⟨rfl, rfl, rfl, rfl⟩
    · exact s.completeSelf_calm a x
  · exact s.completeSelf_calm a x

/-! ## Heads -/

theorem State.removeHead_calm (h : HPort) : Calms g True s (s.removeHead h) :=
  (s.popIngress_calm (.host h)).trans (State.setHead_calm _ h _)

theorem State.accept_calm (h : HPort) : Calms g True s (s.accept h) := by
  unfold State.accept
  split
  · exact .refl g True s
  · refine ((s.popIngress_calm (.host h)).trans (State.setHead_calm _ h .held)).trans
      (State.admission_mgmt_calm _ _ _ ?_)
    exact ⟨rfl, rfl, rfl, rfl⟩

theorem State.acceptOne_calm (l : List HPort) : Calms g True s (s.acceptOne l) := by
  unfold State.acceptOne
  split
  · split
    · exact .refl g True s
    · exact s.accept_calm _
  · exact .refl g True s

end Sys2Proof.Machine

/-! PROOFS. Every command is a chain of small changes: the shared operations that change port states, ORT entries or the
commit engine, then the evaluations of heads and the passes, then the commands themselves (`exec_evolves`). -/

namespace Sys2Proof.Machine

-- One proof at a time: side by side they take more memory than the check allows.
set_option Elab.async false

/-! ## What calm changes leave alone -/

/-- What no calm change touches: port states and training, ORT entries, banks, the commit engine, the moment and the
queue of commands. -/
structure Still (s t : State) : Prop where
  state : ∀ p : Port, (t.link p).state = (s.link p).state
  attempts : ∀ p : Port, (t.link p).attempts = (s.link p).attempts
  tTrn : ∀ p : Port, (t.link p).tTrn = (s.link p).tTrn
  ort : t.tracker.ort = s.tracker.ort
  banks : t.banks = s.banks
  commit : t.commit = s.commit
  now : t.now = s.now
  pending : t.pending = s.pending

theorem Still.refl (s : State) : Still s s :=
  ⟨fun _ => rfl, fun _ => rfl, fun _ => rfl, rfl, rfl, rfl, rfl, rfl⟩

theorem Still.trans {s t u : State} (h : Still s t) (k : Still t u) : Still s u :=
  ⟨fun p => (k.state p).trans (h.state p), fun p => (k.attempts p).trans (h.attempts p),
    fun p => (k.tTrn p).trans (h.tTrn p), k.ort.trans h.ort, k.banks.trans h.banks, k.commit.trans h.commit,
    k.now.trans h.now, k.pending.trans h.pending⟩

theorem Calm.still {g m : Prop} {s t : State} (h : Calm g m s t) : Still s t := by
  cases h with
  | ports hs ts h1 h2 _ =>
    have hp : ∀ p : Port, ({ s with hosts := hs, targets := ts } : State).link p = s.link p ∨
        ∃ cap, QueueStep cap (s.link p) (({ s with hosts := hs, targets := ts } : State).link p) := by
      intro p
      cases p with
      | host h => exact .inr ⟨_, (h1 h).1⟩
      | target d => exact .inr ⟨_, (h2 d).1⟩
    refine ⟨fun p => ?_, fun p => ?_, fun p => ?_, rfl, rfl, rfl, rfl, rfl⟩ <;>
      rcases hp p with e | ⟨cap, k⟩
    · rw [e]
    · exact k.kept.1
    · rw [e]
    · exact k.kept.2.1
    · rw [e]
    · exact k.kept.2.2.1
  | lists t ht _ => exact { Still.refl s with ort := ht }
  | admission | mgmt | enqueued | snapped | notifier => exact { Still.refl s with }

theorem Calms.still {g m : Prop} {s t : State} (h : Calms g m s t) : Still s t := by
  induction h with
  | refl => exact .refl s
  | tail _ hm ih => exact ih.trans hm.still

/-! ## Debts -/

/-- What a command owes before it ends: the leave-UP effects of ports that a report has just isolated, and the check
whether the drain is complete. -/
structure Debt where
  left : Port → Prop
  drain : Prop

/-- Nothing owed: the debt between steps. -/
def Debt.zero : Debt := { left := fun _ => False, drain := False }

/-- The debt with the leave-UP effects of port `p` owed as well. -/
def Debt.leaving (δ : Debt) (p : Port) : Debt := { δ with left := fun q => δ.left q ∨ p = q }

/-- The debt with the drain's check owed as well. -/
def Debt.checking (δ : Debt) : Debt := { δ with drain := True }

/-- Every entry that is not FREE names a target port in UP, or one whose purge is owed (R135, R158). -/
def Debt.Aimed (δ : Debt) (s : State) : Prop :=
  ∀ e : EntryIx, (s.tracker.ort[e]).state ≠ .free →
    s.targetUp (s.tracker.ort[e]).target = true ∨ δ.left (.target (s.tracker.ort[e]).target)

/-- While the engine is DRAINING some entry is in flight, or the drain's check is owed (R89). -/
def Debt.Works (δ : Debt) (s : State) : Prop :=
  s.commit.engine = .draining → s.tracker.inFlightCount = 0 → δ.drain

/-- What is owed to a host port and what may still come to be owed to it. -/
def Tracker.load (t : Tracker) (h : HPort) : Nat := t.owing h + t.hostCount h

/-- A host port in a quiet state holds no packet (R29). -/
def HostQuiet (s : State) (h : HPort) : Prop :=
  (s.hosts[h]).link.state ≠ .up → (s.hosts[h]).link.state ≠ .isolated → (s.hosts[h]).link.ingress = []

/-- The head conditions fit, but for ports whose leave-UP effects are owed, and quiet host ports are empty (R29, R98). -/
structure Debt.HeadsOk (δ : Debt) (s : State) : Prop where
  heads : ∀ h, δ.left (.host h) ∨ HeadFits s h s.admission.heads[h]
  quiet : ∀ h, HostQuiet s h

/-- The head conditions and the management unit's fields fit (R98, R117, R200). -/
structure Debt.FrontFits (δ : Debt) (s : State) : Prop extends Debt.HeadsOk δ s where
  unit : UnitFits s

/-- An access that may begin: a well-formed request to the aperture block, on a port that holds grant (R117). -/
def State.Grants (s : State) (a : Access) : Prop :=
  s.granted a.port = true ∧ a.packet.wellFormedRequest = true ∧ blockOf a.packet.address = s.mgmt.apertureBase

/-- The access that the unit executes is one of the `old` ones, or one that may begin. -/
def AccessFits (old : Access → Prop) (s : State) : Prop := ∀ a, s.mgmt.unit = .accessing a → old a ∨ s.Grants a

/-- A chain of small changes from debt `δ` to debt `δ'`, with what it keeps: the entries aimed at targets in UP, a drain at
work, the loads within the answer lists' capacity, the head conditions fitting, and, where the command writes no setting,
no access begun without grant. -/
structure Evolves (c : Instr) (δ δ' : Debt) (s t : State) : Prop where
  micros : Micros c s t
  aimed : δ.Aimed s → δ'.Aimed t
  works : δ.Works s → δ'.Works t
  load : (∀ h, s.tracker.load h ≤ 134) → ∀ h, t.tracker.load h ≤ 134
  front : δ.FrontFits s → δ'.FrontFits t
  access : c.writesSettings = false → ∀ old, AccessFits old s → AccessFits old t

/-- What the head conditions rest on, the same in two states. -/
structure SameFront (s t : State) : Prop where
  state : ∀ h : HPort, (t.hosts[h]).link.state = (s.hosts[h]).link.state
  ingress : ∀ h : HPort, (t.hosts[h]).link.ingress = (s.hosts[h]).link.ingress
  heads : t.admission.heads = s.admission.heads
  work : s.mgmt.SameWork t.mgmt

/-- Grant and aperture base the same in two states. -/
def SameGrant (s t : State) : Prop := t.mgmt.grant = s.mgmt.grant ∧ t.mgmt.apertureBase = s.mgmt.apertureBase

section
variable {c : Instr} {δ δ' δ'' : Debt} {s t u : State}

theorem Evolves.refl (c : Instr) (s : State) : Evolves c δ δ s s := ⟨.refl c s, id, id, id, id, fun _ _ => id⟩

theorem Evolves.trans (h : Evolves c δ δ' s t) (k : Evolves c δ' δ'' t u) : Evolves c δ δ'' s u :=
  ⟨h.micros.trans k.micros, k.aimed ∘ h.aimed, k.works ∘ h.works, k.load ∘ h.load, k.front ∘ h.front,
    fun hc old => k.access hc old ∘ h.access hc old⟩

/-- A greater debt may be owed. -/
theorem Evolves.of_le (c : Instr) (s : State) (hleft : ∀ p, δ.left p → δ'.left p) (hdrain : δ.drain → δ'.drain) :
    Evolves c δ δ' s s where
  micros := .refl c s
  aimed h e he := (h e he).imp_right (hleft _)
  works h h1 h2 := hdrain (h h1 h2)
  load := id
  front h := ⟨⟨fun k => (h.heads k).imp_left (hleft _), h.quiet⟩, h.unit⟩
  access _ _ := id

theorem SameFront.refl (s : State) : SameFront s s := ⟨fun _ => rfl, fun _ => rfl, rfl, rfl, rfl, rfl⟩

theorem SameFront.trans (h : SameFront s t) (k : SameFront t u) : SameFront s u :=
  ⟨fun p => (k.state p).trans (h.state p), fun p => (k.ingress p).trans (h.ingress p), k.heads.trans h.heads,
    k.work.1.trans h.work.1, k.work.2.1.trans h.work.2.1, k.work.2.2.trans h.work.2.2⟩

theorem State.hostUp_iff (s : State) (h : HPort) : s.hostUp h = true ↔ (s.hosts[h]).link.state = .up := by
  simp [State.hostUp]

/-- A head condition fits in the same way where the port, its queue and the unit are the same. -/
theorem SameFront.headFits (h : SameFront s t) (k : HPort) (x : HeadCondition) (hx : HeadFits s k x) : HeadFits t k x := by
  have hup : t.hostUp k = s.hostUp k := by rw [Bool.eq_iff_iff, State.hostUp_iff, State.hostUp_iff, h.state]
  cases x with
  | noHead => simpa only [HeadFits, hup, h.ingress] using hx
  | presented => simpa only [HeadFits, hup, h.ingress] using hx
  | waiting r => simpa only [HeadFits, hup, h.ingress] using hx
  | held => simpa only [HeadFits, hup, h.work.1] using hx

theorem SameFront.fits (h : SameFront s t) (hs : δ.FrontFits s) : δ.FrontFits t where
  heads k := (hs.heads k).imp_right fun hk => by rw [h.heads]; exact h.headFits k _ hk
  unit := by
    have hu := hs.unit
    unfold UnitFits at hu ⊢
    rw [h.work.1, h.work.2.1, h.work.2.2]
    exact hu
  quiet k h1 h2 := by
    rw [h.state] at h1 h2
    rw [h.ingress]
    exact hs.quiet k h1 h2

/-- No access begins where the unit begins none and grant and aperture stay. -/
theorem AccessFits.of_same {old : Access → Prop} (hs : AccessFits old s) (hg : SameGrant s t)
    (hu : ∀ a, t.mgmt.unit = .accessing a → s.mgmt.unit = .accessing a) : AccessFits old t := fun a ha =>
  (hs a (hu a ha)).imp_right fun h => by
    unfold State.Grants State.granted at h ⊢
    rw [hg.1, hg.2]
    exact h

theorem State.targetUp_iff (s : State) (d : DPort) : s.targetUp d = true ↔ (s.link (.target d)).state = .up := by
  simp [State.targetUp, State.link]

/-- A chain that leaves the entries alone, owes no host more and takes no target port out of UP. -/
theorem Evolves.of_ort (hm : Micros c s t) (hort : t.tracker.ort = s.tracker.ort)
    (hup : ∀ d, s.targetUp d = true → t.targetUp d = true ∨ δ.left (.target d))
    (howing : ∀ h, t.tracker.owing h ≤ s.tracker.owing h)
    (hdrain : t.commit.engine = .draining → s.commit.engine = .draining ∨ s.tracker.inFlightCount ≠ 0)
    (hfront : δ.FrontFits s → δ.FrontFits t) (haccess : c.writesSettings = false → ∀ old, AccessFits old s → AccessFits old t) :
    Evolves c δ δ s t where
  micros := hm
  aimed h e he := by
    rw [hort] at he ⊢
    rcases h e he with h | h
    · exact hup _ h
    · exact .inr h
  works h hd h0 := by
    have hc : t.tracker.inFlightCount = s.tracker.inFlightCount := by simp only [Tracker.inFlightCount, hort]
    rw [hc] at h0
    rcases hdrain hd with hs | hs
    · exact h hs h0
    · exact absurd h0 hs
  load h k := by
    have hc : t.tracker.hostCount k = s.tracker.hostCount k := by simp only [Tracker.hostCount, hort]
    have := h k
    have := howing k
    unfold Tracker.load at *
    omega
  front := hfront
  access := haccess

/-- A small change that leaves tracker, ports, heads and management unit alone and begins no drain. -/
theorem Micro.quiet (hm : Micro c s t) (ht : t.tracker = s.tracker) (hh : t.hosts = s.hosts) (hd : t.targets = s.targets)
    (hheads : t.admission.heads = s.admission.heads) (hg : t.mgmt = s.mgmt)
    (he : t.commit.engine = .draining → s.commit.engine = .draining ∨ s.tracker.inFlightCount ≠ 0) :
    Evolves c δ δ s t :=
  .of_ort (.one hm) (by rw [ht]) (fun d h => .inl (by unfold State.targetUp at h ⊢; rw [hd]; exact h)) (fun h => by rw [ht])
    he (SameFront.fits ⟨fun h => by rw [hh], fun h => by rw [hh], hheads, by rw [hg], by rw [hg], by rw [hg]⟩)
    fun _ _ h => h.of_same ⟨by rw [hg], by rw [hg]⟩ fun a ha => by rwa [hg] at ha

theorem Calms.owing {m : Prop} (h : Calms False m s t) (k : HPort) : t.tracker.owing k ≤ s.tracker.owing k := by
  induction h with
  | refl => exact Nat.le_refl _
  | tail _ hm ih =>
    refine le_trans ?_ ih
    cases hm with
    | lists t _ ho => exact ho.resolve_left id k
    | ports | admission | mgmt | enqueued | snapped | notifier => exact Nat.le_refl _

theorem Calm.sameGrant {g m : Prop} (h : Calm g m s t) : SameGrant s t := by
  cases h with
  | mgmt k hk _ => exact ⟨hk.2.1, hk.1⟩
  | ports | admission | lists | enqueued | snapped | notifier => exact ⟨rfl, rfl⟩

theorem Calms.sameGrant {g m : Prop} (h : Calms g m s t) : SameGrant s t := by
  induction h with
  | refl => exact ⟨rfl, rfl⟩
  | tail _ hm ih => exact ⟨hm.sameGrant.1.trans ih.1, hm.sameGrant.2.trans ih.2⟩

theorem Calm.sameFront {g : Prop} (h : Calm g False s t) : SameFront s t := by
  cases h with
  | ports hs ts h1 h2 h3 => exact { SameFront.refl s with state := fun h => (h1 h).1.kept.1, ingress := h3.resolve_left id }
  | admission a ha => exact { SameFront.refl s with heads := ha.resolve_left id }
  | mgmt k _ hk => exact { SameFront.refl s with work := hk.resolve_left id }
  | lists | enqueued | snapped | notifier => exact { SameFront.refl s with }

theorem Calms.sameFront {g : Prop} (h : Calms g False s t) : SameFront s t := by
  induction h with
  | refl => exact .refl s
  | tail _ hm ih => exact ih.trans hm.sameFront

theorem Still.targetUp (h : Still s t) (d : DPort) : t.targetUp d = s.targetUp d := by
  rw [Bool.eq_iff_iff, State.targetUp_iff, State.targetUp_iff, h.state]

/-- Calm changes that move a head or the management unit, with what they keep of it. -/
theorem Calms.evolves_of_front {m : Prop} (c : Instr) (h : Calms False m s t) (hf : δ.FrontFits s → δ.FrontFits t)
    (hu : ∀ a, t.mgmt.unit = .accessing a → s.mgmt.unit = .accessing a) : Evolves c δ δ s t :=
  .of_ort (h.micros c) h.still.ort (fun d hd => .inl (by rw [h.still.targetUp]; exact hd)) h.owing
    (fun hd => .inl (by rw [← h.still.commit]; exact hd)) hf fun _ _ ha => ha.of_same h.sameGrant hu

theorem Calms.evolves (c : Instr) (h : Calms False False s t) : Evolves c δ δ s t :=
  h.evolves_of_front c h.sameFront.fits fun a ha => by rwa [h.sameFront.work.1] at ha

/-- A chain followed by calm changes, where no host's load has grown in all. -/
theorem Evolves.then_calm {g : Prop} (h : Evolves c δ δ' s u) (k : Calms g False u t)
    (hl : ∀ x, t.tracker.load x ≤ s.tracker.load x) : Evolves c δ δ' s t where
  micros := h.micros.trans (k.micros c)
  aimed hs e he := by
    rw [k.still.ort] at he ⊢
    rw [k.still.targetUp]
    exact h.aimed hs e he
  works hs hd h0 := by
    have hc : t.tracker.inFlightCount = u.tracker.inFlightCount := by simp only [Tracker.inFlightCount, k.still.ort]
    exact h.works hs (by rw [← k.still.commit]; exact hd) (hc ▸ h0)
  load hs x := (hl x).trans (hs x)
  front hs := k.sameFront.fits (h.front hs)
  access hc old hs := (h.access hc old hs).of_same k.sameGrant fun a ha => by rwa [k.sameFront.work.1] at ha

end

/-! ## Counts -/

/-- Two disjoint conditions that both imply a third hold at no more elements together. -/
theorem List.countP_add_countP_le {α : Type} (l : List α) (p q r : α → Bool) (hp : ∀ x, p x = true → r x = true)
    (hq : ∀ x, q x = true → r x = true ∧ p x = false) : l.countP p + l.countP q ≤ l.countP r := by
  induction l with
  | nil => simp
  | cons x l ih =>
    simp only [List.countP_cons]
    have h1 := hp x
    have h2 := hq x
    split_ifs <;> grind

/-- What setting one element does to a count. -/
theorem Vector.countP_toList_set {α : Type} {n : Nat} (v : Vector α n) (i : Fin n) (x : α) (p : α → Bool) :
    (v.set i x).toList.countP p + (if p v[i] then 1 else 0) = v.toList.countP p + (if p x then 1 else 0) := by
  have hi : i.val < v.toList.length := by simp
  have hpos : p v[i] = true → 0 < v.toList.countP p := fun h =>
    List.countP_pos_iff.2 ⟨v[i], by simp, h⟩
  rw [Vector.toList_set, List.countP_set hi]
  simp only [Vector.getElem_toList, Fin.getElem_fin] at hpos ⊢
  split
  · next h => have := hpos h; omega
  · omega

/-! ## Changes of entries -/

section
variable {e f : Entry}

/-- An entry that counts toward a host after its own change counted toward it before. -/
theorem EntryStep.countsForHost (h : EntryStep e f) {k : HPort} (hf : f.countsForHost k = true) :
    e.countsForHost k = true := by
  cases h with
  | same | marked => exact hf
  | orphaned | freed | delivered | expired | quarantined =>
    simp [Entry.countsForHost, Entry.inFlight, Entry.freed, Entry.quarantinedUntil] at hf
  | progress n hin _ _ _ _ =>
    simp only [Entry.countsForHost, Bool.and_eq_true] at hf ⊢
    exact ⟨⟨hin, hf.1.2⟩, hf.2⟩

/-- An entry's own change takes it to no other target, and never out of FREE. -/
theorem EntryStep.nonfree (h : EntryStep e f) (hf : f.state ≠ .free) : e.state ≠ .free ∧ f.target = e.target := by
  have busy : e.inFlight = true → e.state ≠ .free := fun h h' => by simp [Entry.inFlight, h'] at h
  cases h with
  | same | marked => exact ⟨hf, rfl⟩
  | orphaned h => exact ⟨busy h, rfl⟩
  | freed | delivered | expired => exact absurd rfl hf
  | quarantined m h _ => exact ⟨busy h, rfl⟩
  | progress n h => exact ⟨busy h, rfl⟩

end

section
variable {c : Instr} {δ : Debt} (s : State)

/-- Changes of entries, each for itself, of which none leaves flight unless the drain's check is owed. -/
theorem State.entries_evolves (ort : Vector Entry 128) (he : ∀ e : EntryIx, EntryStep s.tracker.ort[e] ort[e])
    (hd : δ.drain ∨ ∀ e : EntryIx, (s.tracker.ort[e]).inFlight = true → (ort[e]).inFlight = true) :
    Evolves c δ δ s { s with tracker := { s.tracker with ort := ort } } where
  micros := .one (.entries ort he)
  aimed h e hne := by
    obtain ⟨hne', ht⟩ := (he e).nonfree hne
    rw [ht]
    exact h e hne'
  works h hdr h0 := by
    rcases hd with hd | hd
    · exact hd
    · refine h hdr (Nat.le_zero.1 ?_)
      rw [← h0]
      exact Vector.countP_toList_le _ _ _ hd
  load h k := by
    refine le_trans (Nat.add_le_add_left (Vector.countP_toList_le _ _ _ fun e => ?_) _) (h k)
    exact (he e).countsForHost
  front := SameFront.fits ⟨fun _ => rfl, fun _ => rfl, rfl, rfl, rfl, rfl⟩
  access _ _ h := h.of_same ⟨rfl, rfl⟩ fun _ => id

/-- A change of one entry that leaves flight only where the drain's check is owed. -/
theorem State.setEntry_evolves (e : EntryIx) (f : Entry → Entry) (hf : EntryStep s.tracker.ort[e] (f s.tracker.ort[e]))
    (hd : δ.drain ∨ ((s.tracker.ort[e]).inFlight = true → (f s.tracker.ort[e]).inFlight = true)) :
    Evolves c δ δ s (s.setEntry e f) := by
  have hne : ∀ x : EntryIx, x ≠ e → (s.setEntry e f).tracker.ort[x] = s.tracker.ort[x] := fun x hx =>
    s.setEntry_other e x f hx
  refine s.entries_evolves _ (fun x => ?_) (hd.imp_right fun hd x => ?_)
  · by_cases hx : x = e
    · subst hx; simpa using hf
    · have := hne x hx
      simp only [State.setEntry] at this
      rw [this]; exact .same
  · by_cases hx : x = e
    · subst hx; simpa using hd
    · have := hne x hx
      simp only [State.setEntry] at this
      rw [this]; exact id

end

end Sys2Proof.Machine

/-! PROOFS. What the operations on heads and on the management unit keep of the head conditions (R98, R117, R200). -/

namespace Sys2Proof.Machine

-- One proof at a time: side by side they take more memory than the check allows.
set_option Elab.async false

section
variable {δ : Debt} {s t : State}

/-! ## Head conditions, port by port -/

/-- A head condition fits in the same way where the port, its queue and the unit are the same. -/
theorem headFits_congr {k : HPort} {x : HeadCondition} (hstate : (t.hosts[k]).link.state = (s.hosts[k]).link.state)
    (hingress : (t.hosts[k]).link.ingress = (s.hosts[k]).link.ingress) (hunit : t.mgmt.unit = s.mgmt.unit)
    (hx : HeadFits s k x) : HeadFits t k x := by
  have hup : t.hostUp k = s.hostUp k := by rw [Bool.eq_iff_iff, State.hostUp_iff, State.hostUp_iff, hstate]
  cases x with
  | noHead => simpa only [HeadFits, hup, hingress] using hx
  | presented => simpa only [HeadFits, hup, hingress] using hx
  | waiting r => simpa only [HeadFits, hup, hingress] using hx
  | held => simpa only [HeadFits, hup, hunit] using hx

/-- A head that is not HELD fits whatever the unit does. -/
theorem headFits_congr_of_not_held {k : HPort} {x : HeadCondition} (hx : x ≠ .held)
    (hstate : (t.hosts[k]).link.state = (s.hosts[k]).link.state)
    (hingress : (t.hosts[k]).link.ingress = (s.hosts[k]).link.ingress) (h : HeadFits s k x) : HeadFits t k x := by
  have hup : t.hostUp k = s.hostUp k := by rw [Bool.eq_iff_iff, State.hostUp_iff, State.hostUp_iff, hstate]
  cases x with
  | noHead => simpa only [HeadFits, hup, hingress] using h
  | presented => simpa only [HeadFits, hup, hingress] using h
  | waiting r => simpa only [HeadFits, hup, hingress] using h
  | held => exact absurd rfl hx

/-- The head of a port that is not UP is no head. -/
theorem HeadFits.eq_noHead {k : HPort} {x : HeadCondition} (h : HeadFits s k x) (hup : (s.hosts[k]).link.state ≠ .up) :
    x = .noHead := by
  have hno : s.hostUp k ≠ true := fun e => hup ((s.hostUp_iff k).1 e)
  cases x with
  | noHead => rfl
  | presented => exact absurd h.1 hno
  | waiting r => exact absurd h.1 hno
  | held => exact absurd h.1 hno

theorem headFits_noHead_of_not_up {k : HPort} (hup : (s.hosts[k]).link.state ≠ .up) : HeadFits s k .noHead :=
  .inl (Bool.eq_false_iff.2 fun e => hup ((s.hostUp_iff k).1 e))

/-- A head that can be evaluated stands at an UP port that holds a packet. -/
theorem HeadFits.of_evaluable {k : HPort} {x : HeadCondition} (h : HeadFits s k x) (he : x.evaluable = true) :
    (s.hosts[k]).link.state = .up ∧ (s.hosts[k]).link.ingress ≠ [] := by
  cases x with
  | noHead => cases he
  | held => cases he
  | presented => exact ⟨(s.hostUp_iff k).1 h.1, h.2⟩
  | waiting r => exact ⟨(s.hostUp_iff k).1 h.1, h.2⟩

theorem headFits_waiting {k : HPort} (r : WaitReason) (hup : (s.hosts[k]).link.state = .up)
    (hin : (s.hosts[k]).link.ingress ≠ []) : HeadFits s k (.waiting r) := ⟨(s.hostUp_iff k).2 hup, hin⟩

/-- The head of an UP port after what stood before it is gone. -/
theorem headFits_next {k : HPort} (hup : (s.hosts[k]).link.state = .up) :
    HeadFits s k (if (s.hosts[k]).link.ingress.isEmpty then .noHead else .presented) := by
  split
  · next h => exact .inr (List.isEmpty_iff.1 h)
  · next h => exact ⟨(s.hostUp_iff k).2 hup, fun e => h (List.isEmpty_iff.2 e)⟩

/-- A change of one host port's state, queue and head, with the unit as it was. -/
theorem Debt.FrontFits.of_others {δ' : Debt} (hs : δ.FrontFits s) (h : HPort)
    (hleft : ∀ k, k ≠ h → δ.left (.host k) → δ'.left (.host k))
    (hothers : ∀ k : HPort, k ≠ h → (t.hosts[k]).link.state = (s.hosts[k]).link.state ∧
      (t.hosts[k]).link.ingress = (s.hosts[k]).link.ingress ∧ t.admission.heads[k] = s.admission.heads[k])
    (hwork : s.mgmt.SameWork t.mgmt) (hh : δ'.left (.host h) ∨ HeadFits t h t.admission.heads[h]) (hq : HostQuiet t h) :
    δ'.FrontFits t where
  heads k := by
    by_cases e : k = h
    · rw [e]; exact hh
    · obtain ⟨h1, h2, h3⟩ := hothers k e
      rw [h3]
      exact (hs.heads k).imp (hleft k e) (headFits_congr h1 h2 hwork.1)
  unit := by
    have hu := hs.unit
    unfold UnitFits at hu ⊢
    rw [hwork.1, hwork.2.1, hwork.2.2]
    exact hu
  quiet k := by
    by_cases e : k = h
    · rw [e]; exact hq
    · obtain ⟨h1, h2, -⟩ := hothers k e
      unfold HostQuiet
      rw [h1, h2]
      exact hs.quiet k

/-! ## The management unit -/

/-- The access the unit holds, if any, is one of port `h`. -/
def UnitAt (s : State) (h : HPort) : Prop :=
  match s.mgmt.unit with
  | .free => True
  | .accessing a => a.port = h
  | .answering a _ => a.port = h

/-- Only the port of the unit's access is HELD. -/
theorem Debt.HeadsOk.held_eq (hs : δ.HeadsOk s) {h k : HPort} (hu : UnitAt s h) (hk : s.admission.heads[k] = .held) :
    δ.left (.host k) ∨ k = h := by
  refine (hs.heads k).imp_right fun hf => ?_
  rw [hk] at hf
  obtain ⟨-, hf⟩ := hf
  unfold UnitAt at hu
  cases hm : s.mgmt.unit with
  | free => rw [hm] at hf; exact hf.elim
  | accessing a => rw [hm] at hf hu; exact hf.symm.trans hu
  | answering a x => rw [hm] at hf hu; exact hf.symm.trans hu

theorem State.leaveHeld_eq (s : State) (h : HPort) : s.leaveHeld h = if s.admission.heads[h] = .held then
    s.setHead h (if s.hostUp h && !(s.hosts[h]).link.ingress.isEmpty then .presented else .noHead) else s := rfl

theorem State.leaveHeld_hosts (s : State) (h : HPort) : (s.leaveHeld h).hosts = s.hosts := by
  rw [State.leaveHeld_eq]; split <;> rfl

theorem State.leaveHeld_mgmt (s : State) (h : HPort) : (s.leaveHeld h).mgmt = s.mgmt := by
  rw [State.leaveHeld_eq]; split <;> rfl

theorem State.leaveHeld_head_self {s : State} {h : HPort} (hh : s.admission.heads[h] = .held) :
    (s.leaveHeld h).admission.heads[h] =
      if s.hostUp h && !(s.hosts[h]).link.ingress.isEmpty then .presented else .noHead := by
  rw [State.leaveHeld_eq, if_pos hh]
  exact State.setHead_self s h _

theorem State.leaveHeld_head_other {s : State} {h k : HPort} (hk : s.admission.heads[k] = .held → k ≠ h) :
    (s.leaveHeld h).admission.heads[k] = s.admission.heads[k] := by
  rw [State.leaveHeld_eq]
  split
  · next hh => exact State.setHead_other s h k _ fun e => hk (e ▸ hh) e
  · rfl

/-- The state in which the unit is free and its port still HELD. -/
def State.unitFreed (s : State) : State := { s with mgmt := { s.mgmt with unit := .free } }

theorem State.freeUnit_eq (s : State) (h : HPort) : s.freeUnit h = (s.unitFreed.leaveHeld h).wake := rfl

theorem State.freeUnit_hosts (s : State) (h : HPort) : (s.freeUnit h).hosts = s.hosts := State.leaveHeld_hosts _ h

theorem State.freeUnit_mgmt (s : State) (h : HPort) : (s.freeUnit h).mgmt = { s.mgmt with unit := .free } :=
  State.leaveHeld_mgmt _ h

/-- The unit freed, and the port of its access no longer HELD. -/
theorem Debt.HeadsOk.freeUnit (hs : δ.HeadsOk s) {h : HPort} (hu : UnitAt s h) : δ.FrontFits (s.freeUnit h) := by
  have hhosts := s.freeUnit_hosts h
  refine ⟨⟨fun k => ?_, fun k => by unfold HostQuiet; rw [hhosts]; exact hs.quiet k⟩,
    by unfold UnitFits; rw [s.freeUnit_mgmt]; trivial⟩
  rw [State.freeUnit_eq, State.wake_admission_heads]
  by_cases hheld : s.unitFreed.admission.heads[k] = .held
  · refine (hs.held_eq hu hheld).imp (fun h => h) fun e => ?_
    subst e
    rw [State.leaveHeld_head_self hheld]
    split
    · next hc =>
      simp only [Bool.and_eq_true, Bool.not_eq_true', List.isEmpty_eq_false_iff] at hc
      exact headFits_congr (s := s.unitFreed) (by rw [← State.freeUnit_eq, hhosts]; rfl)
        (by rw [← State.freeUnit_eq, hhosts]; rfl) (by rw [← State.freeUnit_eq, s.freeUnit_mgmt]; rfl) hc
    · next hc =>
      have hnone : HeadFits s.unitFreed k .noHead := by
        by_cases hup : s.unitFreed.hostUp k = true
        · refine .inr (List.isEmpty_iff.1 ?_)
          simpa [hup] using hc
        · exact .inl (Bool.eq_false_iff.2 hup)
      exact headFits_congr (by rw [← State.freeUnit_eq, hhosts]; rfl) (by rw [← State.freeUnit_eq, hhosts]; rfl)
        (by rw [← State.freeUnit_eq, s.freeUnit_mgmt]; rfl) hnone
  · rw [State.leaveHeld_head_other fun e => absurd e hheld]
    exact (hs.heads k).imp_right (headFits_congr_of_not_held hheld (by rw [← State.freeUnit_eq, hhosts])
      (by rw [← State.freeUnit_eq, hhosts]))

/-- Heads and queues fit as before where ports, heads and the unit's access stay. -/
theorem Debt.HeadsOk.congr (hs : δ.HeadsOk s) (hstate : ∀ k : HPort, (t.hosts[k]).link.state = (s.hosts[k]).link.state)
    (hingress : ∀ k : HPort, (t.hosts[k]).link.ingress = (s.hosts[k]).link.ingress)
    (hheads : t.admission.heads = s.admission.heads) (hunit : t.mgmt.unit = s.mgmt.unit) : δ.HeadsOk t where
  heads k := by rw [hheads]; exact (hs.heads k).imp_right (headFits_congr (hstate k) (hingress k) hunit)
  quiet k := by unfold HostQuiet; rw [hstate, hingress]; exact hs.quiet k

/-- An access of port `a.port` completes, with the action it leaves due. -/
theorem Debt.HeadsOk.completeSelf (hs : δ.HeadsOk s) {a : Access} (x : Option SelfAction) (hu : UnitAt s a.port) :
    δ.FrontFits (s.completeSelf a x) := by
  have hset : ∀ u : State, u.hosts = s.hosts → u.admission = s.admission → u.mgmt.unit = s.mgmt.unit →
      δ.FrontFits (u.freeUnit a.port) := fun u hh ha hm => by
    refine (hs.congr (t := u) (fun k => by rw [hh]) (fun k => by rw [hh]) (by rw [ha]) hm).freeUnit ?_
    unfold UnitAt
    rw [hm]
    exact hu
  unfold State.completeSelf
  simp only
  split
  · exact hset _ rfl rfl rfl
  · exact hset _ rfl rfl rfl

/-- The unit's fields fit, but that the answer of port `h`, if it waits for that one, has left its hands. -/
def UnitFitsBut (s : State) (h : HPort) : Prop :=
  match s.mgmt.unit with
  | .free => True
  | .accessing _ => s.mgmt.action = none
  | .answering a _ => s.mgmt.action = none ∧ (a.port = h ∨ (s.mgmt.answers[a.port]).isSome = true)

/-- Once the answer of port `h` has left its hands, the unit that waited for it is FREE (R200). -/
theorem Debt.HeadsOk.answerGone (hs : δ.HeadsOk s) {h : HPort} (hu : UnitFitsBut s h) : δ.FrontFits (s.answerGone h) := by
  unfold State.answerGone
  unfold UnitFitsBut at hu
  split
  · next a x hm =>
    rw [hm] at hu
    split
    · exact hs.completeSelf x (by unfold UnitAt; rw [hm])
    · next hne => exact ⟨hs, by unfold UnitFits; rw [hm]; exact ⟨hu.1, hu.2.resolve_left hne⟩⟩
  · next hm =>
    refine ⟨hs, ?_⟩
    unfold UnitFits
    cases h' : s.mgmt.unit with
    | free => trivial
    | accessing a => rw [h'] at hu; exact hu
    | answering a x => exact absurd h' (hm a x)

/-- The answer of port `h` leaves the unit's hands. -/
theorem Debt.FrontFits.answerLeaves (hs : δ.FrontFits s) {h : HPort} (hstate : ∀ k : HPort, (t.hosts[k]).link.state = (s.hosts[k]).link.state)
    (hingress : ∀ k : HPort, (t.hosts[k]).link.ingress = (s.hosts[k]).link.ingress)
    (hheads : t.admission.heads = s.admission.heads) (hm : t.mgmt = (s.clearAnswer h).mgmt) :
    δ.FrontFits (t.answerGone h) := by
  refine (hs.toHeadsOk.congr hstate hingress hheads (by rw [hm]; rfl)).answerGone ?_
  have hu := hs.unit
  unfold UnitFits at hu
  unfold UnitFitsBut
  rw [hm, State.clearAnswer_mgmt_unit, State.clearAnswer_mgmt_action]
  cases h' : s.mgmt.unit with
  | free => trivial
  | accessing a => rw [h'] at hu; exact hu
  | answering a x =>
    rw [h'] at hu
    refine ⟨hu.1, ?_⟩
    by_cases e : a.port = h
    · exact .inl e
    · right
      have : h.val ≠ a.port.val := fun e' => e (Fin.ext e'.symm)
      simpa [State.clearAnswer, Vector.getElem_set_ne, this] using hu.2

/-- An update of a host port that keeps its unit's state and ingress queue keeps those of every port. -/
theorem State.setHost_kept (s : State) (h k : HPort) {f : HostPort → HostPort}
    (hf : ∀ x, (f x).link.state = x.link.state ∧ (f x).link.ingress = x.link.ingress) :
    ((s.setHost h f).hosts[k]).link.state = (s.hosts[k]).link.state ∧
      ((s.setHost h f).hosts[k]).link.ingress = (s.hosts[k]).link.ingress := by
  by_cases e : k = h
  · subst e
    have : (s.setHost k f).hosts[k] = f s.hosts[k] := s.setHost_self k f
    rw [this]
    exact hf _
  · have : (s.setHost h f).hosts[k] = s.hosts[k] := s.setHost_other h k f e
    rw [this]
    exact ⟨rfl, rfl⟩

theorem State.placeHost_kept (s : State) (h k : HPort) (c : EgressClass) (p : Packet) :
    ((s.placeHost h c p).hosts[k]).link.state = (s.hosts[k]).link.state ∧
      ((s.placeHost h c p).hosts[k]).link.ingress = (s.hosts[k]).link.ingress :=
  s.setHost_kept h k fun _ => ⟨rfl, rfl⟩

theorem Debt.FrontFits.enterAnswer (hs : δ.FrontFits s) (h : HPort) : δ.FrontFits (s.enterAnswer h) := by
  unfold State.enterAnswer
  split
  · exact hs
  · split
    · next p _ _ =>
      exact hs.answerLeaves (fun k => (s.placeHost_kept h k .management p).1) (fun k => (s.placeHost_kept h k .management p).2)
        rfl rfl
    · exact hs

theorem Debt.FrontFits.discardAnswer (hs : δ.FrontFits s) (h : HPort) : δ.FrontFits (s.discardAnswer h) := by
  unfold State.discardAnswer
  split
  · exact hs
  · exact hs.answerLeaves (fun _ => rfl) (fun _ => rfl) rfl rfl

/-- An answer waits for room at port `h`. -/
def State.setAnswer (s : State) (h : HPort) (p : Packet) : State :=
  { s with mgmt := { s.mgmt with answers := s.mgmt.answers.set h (some p) } }

theorem State.presentAnswer_some (s : State) (h : HPort) (p : Packet) : s.presentAnswer h (some p) =
    if (s.hosts[h]).link.state.carries then (s.setAnswer h p).enterAnswer h else s := rfl

/-- An answer that waits leaves the unit's fields fitting. -/
theorem UnitFitsBut.setAnswer {h : HPort} (hu : UnitFitsBut s h) (p : Packet) : UnitFits (s.setAnswer h p) := by
  unfold UnitFits
  unfold UnitFitsBut at hu
  change match s.mgmt.unit with
    | .free => True
    | .accessing _ => s.mgmt.action = none
    | .answering a _ => s.mgmt.action = none ∧ ((s.mgmt.answers.set h (some p))[a.port]).isSome = true
  cases h' : s.mgmt.unit with
  | free => trivial
  | accessing a => rw [h'] at hu; exact hu
  | answering a x =>
    rw [h'] at hu
    refine ⟨hu.1, ?_⟩
    by_cases e : a.port = h
    · subst e; simp
    · have : h.val ≠ a.port.val := fun e' => e (Fin.ext e'.symm)
      simpa [Vector.getElem_set_ne, this] using hu.2.resolve_left e

theorem UnitFits.but (hu : UnitFits s) (h : HPort) : UnitFitsBut s h := by
  unfold UnitFits at hu
  unfold UnitFitsBut
  cases h' : s.mgmt.unit with
  | free => trivial
  | accessing a => rw [h'] at hu; exact hu
  | answering a x => rw [h'] at hu; exact ⟨hu.1, .inr hu.2⟩

theorem Debt.HeadsOk.presentAnswer (hs : δ.HeadsOk s) {h : HPort} (hu : UnitFitsBut s h)
    (hc : (s.hosts[h]).link.state.carries = true) (p : Packet) : δ.FrontFits (s.presentAnswer h (some p)) := by
  rw [State.presentAnswer_some, if_pos hc]
  exact Debt.FrontFits.enterAnswer (s := s.setAnswer h p)
    ⟨hs.congr (fun _ => rfl) (fun _ => rfl) rfl rfl, hu.setAnswer p⟩ h

theorem Debt.FrontFits.presentAnswer (hs : δ.FrontFits s) (h : HPort) (p : Option Packet) :
    δ.FrontFits (s.presentAnswer h p) := by
  cases p with
  | none => exact hs
  | some p =>
    by_cases hc : (s.hosts[h]).link.state.carries = true
    · exact hs.toHeadsOk.presentAnswer (UnitFits.but hs.unit h) hc p
    · rw [State.presentAnswer_some, if_neg hc]; exact hs

/-! ## The unit's access -/

theorem State.answerGone_of_accessing {h : HPort} {a : Access} (hu : s.mgmt.unit = .accessing a) : s.answerGone h = s := by
  unfold State.answerGone
  rw [hu]

/-- No answer that leaves the unit's hands ends an access that still executes. -/
theorem State.enterAnswer_accessing {h : HPort} {a : Access} (hu : s.mgmt.unit = .accessing a) :
    (s.enterAnswer h).mgmt.unit = .accessing a := by
  unfold State.enterAnswer
  split
  · exact hu
  · split
    · rw [State.answerGone_of_accessing (a := a) (by exact hu)]; exact hu
    · exact hu

theorem State.discardAnswer_accessing {h : HPort} {a : Access} (hu : s.mgmt.unit = .accessing a) :
    (s.discardAnswer h).mgmt.unit = .accessing a := by
  unfold State.discardAnswer
  split
  · exact hu
  · rw [State.answerGone_of_accessing (a := a) (by exact hu)]; exact hu

theorem State.presentAnswer_accessing {h : HPort} {a : Access} {p : Option Packet} (hu : s.mgmt.unit = .accessing a) :
    (s.presentAnswer h p).mgmt.unit = .accessing a := by
  cases p with
  | none => exact hu
  | some p =>
    rw [State.presentAnswer_some]
    split
    · exact State.enterAnswer_accessing (by exact hu)
    · exact hu

/-- The end of an access that executes (R117). -/
theorem Debt.FrontFits.completeAccess (hs : δ.FrontFits s) {a : Access} (hu : s.mgmt.unit = .accessing a)
    (p : Option Packet) : δ.FrontFits (s.completeAccess a p) := by
  refine (hs.presentAnswer a.port p).toHeadsOk.freeUnit ?_
  unfold UnitAt
  rw [State.presentAnswer_accessing hu]

/-- A command on the own port leaves the unit waiting for its answer, or free (R200). -/
theorem Debt.FrontFits.beginSelf (hs : δ.FrontFits s) {a : Access} (hu : s.mgmt.unit = .accessing a) (st : Status)
    (x : Option SelfAction) : δ.FrontFits (s.beginSelf a st x) := by
  have hself : δ.FrontFits (s.completeSelf a x) := hs.toHeadsOk.completeSelf x (by unfold UnitAt; rw [hu])
  have haction : s.mgmt.action = none := by
    have := hs.unit
    unfold UnitFits at this
    rwa [hu] at this
  unfold State.beginSelf
  split
  · split
    · next hc =>
      refine Debt.HeadsOk.presentAnswer (s := { s with mgmt := { s.mgmt with unit := .answering a x } }) ⟨fun k => ?_, hs.quiet⟩
        ⟨haction, .inl rfl⟩ hc _
      refine (hs.heads k).imp_right fun hk => ?_
      by_cases hheld : s.admission.heads[k] = .held
      · rw [hheld] at hk
        change HeadFits _ k s.admission.heads[k]
        rw [hheld]
        obtain ⟨hup, hk⟩ := hk
        rw [hu] at hk
        exact ⟨hup, hk⟩
      · exact headFits_congr_of_not_held (s := s) hheld rfl rfl hk
    · exact hself
  · exact hself

/-! ## What frees the unit begins no access -/

theorem State.freeUnit_unit (s : State) (h : HPort) : (s.freeUnit h).mgmt.unit = .free := by rw [State.freeUnit_mgmt]

theorem State.completeSelf_unit (s : State) (a : Access) (x : Option SelfAction) : (s.completeSelf a x).mgmt.unit = .free :=
  State.freeUnit_unit _ _

theorem State.answerGone_begins {h : HPort} {a : Access} (hu : (s.answerGone h).mgmt.unit = .accessing a) :
    s.mgmt.unit = .accessing a := by
  unfold State.answerGone at hu
  split at hu
  · split at hu
    · rw [State.completeSelf_unit] at hu; cases hu
    · exact hu
  · exact hu

theorem State.enterAnswer_begins {h : HPort} {a : Access} (hu : (s.enterAnswer h).mgmt.unit = .accessing a) :
    s.mgmt.unit = .accessing a := by
  unfold State.enterAnswer at hu
  split at hu
  · exact hu
  · split at hu
    · have := State.answerGone_begins hu
      exact this
    · exact hu

theorem State.discardAnswer_begins {h : HPort} {a : Access} (hu : (s.discardAnswer h).mgmt.unit = .accessing a) :
    s.mgmt.unit = .accessing a := by
  unfold State.discardAnswer at hu
  split at hu
  · exact hu
  · have := State.answerGone_begins hu
    exact this

theorem State.presentAnswer_begins {h : HPort} {a : Access} {p : Option Packet}
    (hu : (s.presentAnswer h p).mgmt.unit = .accessing a) : s.mgmt.unit = .accessing a := by
  cases p with
  | none => exact hu
  | some p =>
    rw [State.presentAnswer_some] at hu
    split at hu
    · have := State.enterAnswer_begins hu
      exact this
    · exact hu

theorem State.beginSelf_begins {a b : Access} {st : Status} {x : Option SelfAction}
    (hu : (s.beginSelf b st x).mgmt.unit = .accessing a) : s.mgmt.unit = .accessing a := by
  unfold State.beginSelf at hu
  split at hu
  · split at hu
    · exact absurd (State.presentAnswer_begins hu) (by simp)
    · rw [State.completeSelf_unit] at hu; cases hu
  · rw [State.completeSelf_unit] at hu; cases hu

end

end Sys2Proof.Machine

/-! PROOFS. What a port's leaving UP, a report and the port commands do as chains of small changes. A report that isolates
a target port owes that port's purge until it has run. -/

namespace Sys2Proof.Machine

-- One proof at a time: side by side they take more memory than the check allows.
set_option Elab.async false

/-! ## Flags -/

variable {c : Instr} {δ : Debt} (s : State)

theorem State.endIsolatedWait_calm {g m : Prop} (h : HPort) :
    Calms g m s (s.setHost h fun x => { x with isolatedWaits := false }) :=
  s.setHost_flags_calm h _ (fun _ => rfl) fun _ => rfl

theorem State.setClassPtr_calm {g m : Prop} (h : HPort) (x : EgressClass) :
    Calms g m s (s.setHost h fun y => { y with classPtr := x }) :=
  s.setHost_flags_calm h _ (fun _ => rfl) fun _ => rfl

/-! ## Changes of one host port's front -/

/-- A chain ends what it owed for a host port whose head condition fits again. -/
theorem Evolves.settles (h : HPort) (hh : HeadFits s h s.admission.heads[h]) :
    Evolves c (δ.leaving (.host h)) δ s s where
  micros := .refl c s
  aimed ha e he := (ha e he).imp_right fun hl => Or.resolve_right hl (by simp)
  works := id
  load := id
  front hs := by
    refine ⟨⟨fun k => ?_, hs.quiet⟩, hs.unit⟩
    rcases hs.heads k with (hl | e) | hk
    · exact .inl hl
    · cases e; exact .inr hh
    · exact .inr hk
  access _ _ := id

theorem Evolves.owes (p : Port) : Evolves c δ (δ.leaving p) s s := .of_le c s (fun _ h => Or.inl h) id

/-- A head condition set where it fits, or at a port whose leave-UP effects are owed. -/
theorem State.setHead_evolves (h : HPort) (x : HeadCondition) (hx : δ.left (.host h) ∨ HeadFits s h x) :
    Evolves c δ δ s (s.setHead h x) := by
  refine (s.setHead_calm h x).evolves_of_front c (fun hs => ?_) fun _ => id
  refine hs.of_others h (fun _ _ hl => hl) (fun k e => ⟨rfl, rfl, s.setHead_other h k x e⟩) ⟨rfl, rfl, rfl⟩ ?_ (hs.quiet h)
  have : (s.setHead h x).admission.heads[h] = x := s.setHead_self h x
  rw [this]
  exact hx.imp_right (headFits_congr rfl rfl rfl)

theorem State.setLink_host_other (h k : HPort) (f : PortUnit → PortUnit) (hk : k ≠ h) :
    (s.setLink (.host h) f).hosts[k] = s.hosts[k] := s.setHost_other h k _ hk

theorem State.setLink_host_self (h : HPort) (f : PortUnit → PortUnit) :
    ((s.setLink (.host h) f).hosts[h]).link = f (s.hosts[h]).link := congrArg HostPort.link (s.setHost_self h _)

/-- A change of one host port's unit, at a port whose leave-UP effects are owed or whose head condition still fits. -/
theorem Debt.FrontFits.setHostLink {s : State} (hs : δ.FrontFits s) (h : HPort) (f : PortUnit → PortUnit)
    (hh : δ.left (.host h) ∨ HeadFits (s.setLink (.host h) f) h s.admission.heads[h])
    (hq : HostQuiet (s.setLink (.host h) f) h) : δ.FrontFits (s.setLink (.host h) f) :=
  hs.of_others h (fun _ _ hl => hl) (fun k e => by rw [s.setLink_host_other h k f e]; exact ⟨rfl, rfl, rfl⟩) ⟨rfl, rfl, rfl⟩ hh hq

/-- A host port's packet taken out where its leave-UP effects are owed. -/
theorem State.popHost_evolves (h : HPort) (hl : δ.left (.host h)) : Evolves c δ δ s (s.popIngress (.host h)) := by
  refine (s.popIngress_calm (.host h)).evolves_of_front c (fun hs => hs.setHostLink h _ (.inl hl) ?_) fun _ => id
  have hq := hs.quiet h
  unfold HostQuiet at hq ⊢
  rw [s.setLink_host_self]
  exact fun h1 h2 => by rw [show (s.hosts[h]).link.ingress = [] from hq h1 h2]; rfl

/-- The head removed at an UP port; what stands behind it is presented (R98). -/
theorem State.removeHead_evolves (h : HPort) (hup : (s.hosts[h]).link.state = .up) : Evolves c δ δ s (s.removeHead h) := by
  have hpop : Evolves c (δ.leaving (.host h)) (δ.leaving (.host h)) s (s.popIngress (.host h)) :=
    s.popHost_evolves h (Or.inr rfl)
  refine (((Evolves.owes s _).trans hpop).trans (State.setHead_evolves _ h _ (.inl (Or.inr rfl)))).trans
    (Evolves.settles _ h ?_)
  have hup' : ((s.removeHead h).hosts[h]).link.state = .up := by
    have he : (s.removeHead h).hosts = (s.setLink (.host h) fun u => { u with ingress := u.ingress.tail }).hosts := rfl
    rw [he, s.setLink_host_self]
    exact hup
  have hhead := (s.popIngress (.host h)).setHead_self h
    (if ((s.popIngress (.host h)).hosts[h]).link.ingress.isEmpty then .noHead else .presented)
  have := headFits_next hup'
  change HeadFits (s.removeHead h) h ((s.popIngress (.host h)).setHead h _).admission.heads[h]
  rw [show ((s.popIngress (.host h)).setHead h _).admission.heads[h] = _ from hhead]
  exact this

/-! ## The management unit -/

theorem State.enterAnswer_evolves (h : HPort) : Evolves c δ δ s (s.enterAnswer h) :=
  (s.enterAnswer_calm h).evolves_of_front c (·.enterAnswer h) fun _ => State.enterAnswer_begins

theorem State.discardAnswer_evolves (h : HPort) : Evolves c δ δ s (s.discardAnswer h) :=
  (s.discardAnswer_calm h).evolves_of_front c (·.discardAnswer h) fun _ => State.discardAnswer_begins

theorem State.completeAccess_evolves {a : Access} (hu : s.mgmt.unit = .accessing a) (p : Option Packet) :
    Evolves c δ δ s (s.completeAccess a p) :=
  (s.completeAccess_calm a p).evolves_of_front c (·.completeAccess hu p) fun b hb => by
    rw [State.completeAccess, State.freeUnit_unit] at hb; cases hb

theorem State.beginSelf_evolves {a : Access} (hu : s.mgmt.unit = .accessing a) (st : Status) (x : Option SelfAction) :
    Evolves c δ δ s (s.beginSelf a st x) :=
  (s.beginSelf_calm a st x).evolves_of_front c (·.beginSelf hu st x) fun _ => State.beginSelf_begins

/-- An action of R200 taken up. -/
theorem State.clearAction_evolves : Evolves c δ δ s s.clearAction := by
  refine s.clearAction_calm.evolves_of_front c (fun hs => ⟨hs.congr (fun _ => rfl) (fun _ => rfl) rfl rfl, ?_⟩) fun _ => id
  have hu := hs.unit
  unfold UnitFits at hu ⊢
  change match s.mgmt.unit with
    | .free => True
    | .accessing _ => (none : Option SelfAction) = none
    | .answering a _ => (none : Option SelfAction) = none ∧ (s.mgmt.answers[a.port]).isSome = true
  cases h' : s.mgmt.unit with
  | free => trivial
  | accessing a => rfl
  | answering a x => rw [h'] at hu; exact ⟨rfl, hu.2⟩

/-! ## Port states -/

/-- A change of a target port's state. It leaves UP only where its purge is owed. -/
theorem State.setTargetLink_evolves (d : DPort) (f : PortUnit → PortUnit)
    (hf : StateStep (s.link (.target d)) (f (s.link (.target d))))
    (hd : (s.link (.target d)).state = .up → (f (s.link (.target d))).state = .up ∨ δ.left (.target d)) :
    Evolves c δ δ s (s.setLink (.target d) f) := by
  refine .of_ort (.one (.state (.target d) _ hf)) rfl (fun x hup => ?_) (fun _ => Nat.le_refl _) .inl
    (SameFront.fits ⟨fun _ => rfl, fun _ => rfl, rfl, rfl, rfl, rfl⟩) fun _ _ h => h.of_same ⟨rfl, rfl⟩ fun _ => id
  rw [State.targetUp_iff] at hup ⊢
  by_cases hp : x = d
  · subst hp
    rw [State.link_setLink]
    exact hd hup
  · rw [State.link_setLink_of_ne s fun e => hp (Port.target.inj e)]
    exact .inl hup

/-- A host port's change of state, with what it keeps of the head conditions. -/
theorem State.setHostLink_evolves (h : HPort) (f : PortUnit → PortUnit)
    (hf : StateStep (s.link (.host h)) (f (s.link (.host h))))
    (hh : δ.FrontFits s → δ.FrontFits (s.setLink (.host h) f)) : Evolves c δ δ s (s.setLink (.host h) f) :=
  .of_ort (.one (.state (.host h) _ hf)) rfl (fun _ hup => .inl hup) (fun _ => Nat.le_refl _) .inl hh
    fun _ _ h => h.of_same ⟨rfl, rfl⟩ fun _ => id

/-- A change of state of a port that was not UP and does not come UP: its head was no head, and its queue stays empty or
is emptied. -/
theorem State.setLink_evolves_of_not_up (p : Port) (f : PortUnit → PortUnit) (hf : StateStep (s.link p) (f (s.link p)))
    (hup : (s.link p).state ≠ .up) (hnew : (f (s.link p)).state ≠ .up)
    (hin : (f (s.link p)).ingress = [] ∨ (s.link p).state ≠ .isolated ∧ (f (s.link p)).ingress = (s.link p).ingress) :
    Evolves c δ δ s (s.setLink p f) := by
  cases p with
  | target d => exact s.setTargetLink_evolves d f hf fun h => absurd h hup
  | host h =>
    refine s.setHostLink_evolves h f hf fun hs => hs.setHostLink h f ((hs.heads h).imp_right fun hk => ?_) fun _ _ => ?_
    · rw [hk.eq_noHead hup]
      exact headFits_noHead_of_not_up (by rw [s.setLink_host_self]; exact hnew)
    · rw [s.setLink_host_self]
      rcases hin with hin | ⟨hi, hin⟩
      · exact hin
      · exact hin.trans (hs.quiet h hup hi)

/-! ## Leaving UP -/

/-- The entries of a leaving host port orphaned, its answers gone (R159). -/
theorem State.orphan_evolves (h : HPort) : Evolves c δ δ s (s.orphan h) := by
  have horphan : ∀ e : EntryIx, (s.orphan h).tracker.ort[e] =
      if (s.tracker.ort[e]).inFlight && (s.tracker.ort[e]).host == h then { s.tracker.ort[e] with orphaned := true }
      else s.tracker.ort[e] := fun e => by simp [State.orphan]
  refine (s.entries_evolves (s.orphan h).tracker.ort (fun e => ?_) (.inr fun e he => ?_)).trans
    (Calms.evolves c (Calm.one (.lists (s.orphan h).tracker rfl (.inr fun k => Tracker.owing_le k ?_ fun _ => .inl rfl))))
  · rw [horphan]
    split
    · next hx => exact .orphaned (Bool.and_eq_true_iff.1 hx).1
    · exact .same
  · rw [horphan]
    split <;> exact he
  · change ((s.tracker.answers.set h [])[k]).length ≤ (s.tracker.answers[k]).length
    by_cases e : k = h
    · subst e; simp
    · have : h.val ≠ k.val := fun e' => e (Fin.ext e'.symm)
      simp [Vector.getElem_set_ne, this]

/-- The state a host port's unit is in once its link has left UP: what follows touches no port's state. -/
theorem State.hostLeavesUp_chain (h : HPort) (l : LinkState) :
    ∃ u v : State, Calms False True (s.setLink (.host h) fun x => { x.emptied with state := l }) u ∧ v = u.orphan h ∧
      Calms False True v (s.hostLeavesUp h l) := by
  refine ⟨((s.setHost h fun x => { x with link := { x.link.emptied with state := l }, isolatedWaits := false }).setHead h
    .noHead).withdrawWaiting h, _, ?_, rfl, ?_⟩
  · have : (s.setHost h fun x => { x with link := { x.link.emptied with state := l }, isolatedWaits := false }) =
        (s.setLink (.host h) fun x => { x.emptied with state := l }).setHost h
          fun x => { x with isolatedWaits := false } := 
      (s.setHost_setHost h (fun x => { x with link := { x.link.emptied with state := l } })
        fun x => { x with isolatedWaits := false }).symm
    rw [this]
    exact (((State.endIsolatedWait_calm _ h).trans (State.setHead_calm _ h .noHead)).trans
      (State.withdrawWaiting_calm _ h))
  · unfold State.hostLeavesUp
    simp only
    split
    · exact (((State.emptyLatch_calm _ h).trans (State.withdrawCopy_calm _ h)).trans (State.wake_calm _)).trans
        (State.discardAnswer_calm _ h)
    · exact ((State.emptyLatch_calm _ h).trans (State.withdrawCopy_calm _ h)).trans (State.wake_calm _)

/-- A state a port can be taken to: neither UP nor TRAINING. -/
def LinkState.Quits (l : LinkState) : Prop := l ≠ .up ∧ l ≠ .training

/-- A host port's state once its link has left UP and its entries are orphaned, before its answer is discarded. -/
def State.hostLeft (s : State) (h : HPort) (l : LinkState) : State :=
  (((((s.setHost h fun x => { x with link := { x.link.emptied with state := l }, isolatedWaits := false }).setHead h
    .noHead).withdrawWaiting h).orphan h).emptyLatch h |>.withdrawCopy h).wake

theorem State.hostLeavesUp_eq (h : HPort) (l : LinkState) : s.hostLeavesUp h l =
    if (s.hostLeft h l).losesAnswer h l then (s.hostLeft h l).discardAnswer h else s.hostLeft h l := rfl

/-- A host port's leaving UP settles its leave-UP effects. -/
theorem State.hostLeft_evolves (h : HPort) (l : LinkState) (hl : l.Quits)
    (hs : (s.hosts[h]).link.state = .up ∨ (s.hosts[h]).link.state = .isolated) :
    Evolves c (δ.leaving (.host h)) δ s (s.hostLeft h l) := by
  have hsplit : (s.setHost h fun x => { x with link := { x.link.emptied with state := l }, isolatedWaits := false }) =
      (s.setLink (.host h) fun x => { x.emptied with state := l }).setHost h fun x => { x with isolatedWaits := false } :=
    (s.setHost_setHost h (fun x => { x with link := { x.link.emptied with state := l } })
      fun x => { x with isolatedWaits := false }).symm
  have hlink := s.setHostLink_evolves (c := c) (δ := δ.leaving (.host h)) h (fun u => { u.emptied with state := l })
    (.left l hs hl.1 hl.2) fun hf => hf.setHostLink h _ (.inl (Or.inr rfl)) fun _ _ => by
      rw [s.setLink_host_self]; rfl
  have hflag := (State.endIsolatedWait_calm (g := False) (m := False)
    (s.setLink (.host h) fun x => { x.emptied with state := l }) h).evolves (δ := δ.leaving (.host h)) c
  rw [← hsplit] at hflag
  generalize hu : (s.setHost h fun x => { x with link := { x.link.emptied with state := l }, isolatedWaits := false }) = u
    at hflag
  have hstate : (u.hosts[h]).link.state = l := by rw [← hu]; simp
  have hhead := u.setHead_evolves (c := c) (δ := δ.leaving (.host h)) h .noHead (.inl (Or.inr rfl))
  have hsettle : Evolves c (δ.leaving (.host h)) δ (u.setHead h .noHead) (u.setHead h .noHead) := by
    refine Evolves.settles _ h ?_
    have : (u.setHead h .noHead).admission.heads[h] = .noHead := u.setHead_self h .noHead
    rw [this]
    exact headFits_noHead_of_not_up (by rw [show (u.setHead h .noHead).hosts = u.hosts from rfl, hstate]; exact hl.1)
  have hrest := ((((State.withdrawWaiting_calm (u.setHead h .noHead) h).evolves c).trans (State.orphan_evolves _ h)).trans
    (((State.emptyLatch_calm _ h).trans (State.withdrawCopy_calm _ h)).evolves (δ := δ) c)).trans
    ((State.wake_calm _).evolves c)
  have := (((hlink.trans hflag).trans hhead).trans hsettle).trans hrest
  rw [← hu] at this
  exact this

theorem State.hostLeavesUp_evolves (h : HPort) (l : LinkState) (hl : l.Quits)
    (hs : (s.hosts[h]).link.state = .up ∨ (s.hosts[h]).link.state = .isolated) :
    Evolves c (δ.leaving (.host h)) δ s (s.hostLeavesUp h l) := by
  rw [State.hostLeavesUp_eq]
  split
  · exact (s.hostLeft_evolves h l hl hs).trans (State.discardAnswer_evolves _ h)
  · exact s.hostLeft_evolves h l hl hs

/-- A report that isolates a port owes that port's leave-UP effects. -/
theorem State.isolatedBy_evolves (r : Report) : Evolves c δ (δ.leaving r.port) s (s.isolatedBy r) := by
  refine (Evolves.owes s r.port).trans ?_
  unfold State.isolatedBy
  split
  · next ho =>
    have hup : (s.link r.port).state = .up := by
      unfold State.reportOutcome State.judgeIsolation at ho
      by_contra hup
      simp [hup] at ho
    generalize r.port = p at hup ⊢
    cases p with
    | target d => exact s.setTargetLink_evolves d (fun u => { u with state := .isolated }) (.isolated hup) fun _ => .inr (Or.inr rfl)
    | host h =>
      exact s.setHostLink_evolves h (fun u => { u with state := .isolated }) (.isolated hup) fun hs =>
        hs.setHostLink h _ (.inl (Or.inr rfl)) fun _ h2 => absurd (by rw [s.setLink_host_self]) h2
  · exact .refl c s

theorem State.takeReport_evolves (r : Report) : Evolves c δ (δ.leaving r.port) s (s.takeReport r) :=
  (s.isolatedBy_evolves r).trans ((s.takeReport_calm r).evolves c)

/-- A report that isolates nothing is a calm change. -/
theorem State.takeReport_calm_of_not_carriedOut {g m : Prop} {r : Report} (h : s.reportOutcome r ≠ .carriedOut) :
    Calms g m s (s.takeReport r) := by
  have := s.takeReport_calm (g := g) (m := m) r
  rwa [State.isolatedBy, if_neg h] at this

/-- The drain's check concerns no head. -/
theorem Debt.checking_frontFits {δ : Debt} {s : State} : δ.checking.FrontFits s ↔ δ.FrontFits s :=
  ⟨fun h => ⟨⟨h.heads, h.quiet⟩, h.unit⟩, fun h => ⟨⟨h.heads, h.quiet⟩, h.unit⟩⟩

/-- The drain's check settles what was owed of it. -/
theorem State.drainCheck_evolves : Evolves c δ.checking δ s s.drainCheck := by
  unfold State.drainCheck
  split
  · next h =>
    have hswap : Evolves c δ.checking δ.checking s s.swapped :=
      Micro.quiet (.swap (.inl h.1)) rfl rfl rfl rfl rfl fun _ => .inl h.1
    have hwake : Evolves c δ.checking δ.checking s.swapped s.swapped.wake := (State.wake_calm s.swapped).evolves c
    have hboth := hswap.trans hwake
    exact { hboth with
      works := fun _ hd => absurd (show EngineState.idle = .draining from hd) (by decide)
      front := fun hs => Debt.checking_frontFits.1 (hboth.front hs) }
  · next h =>
    exact { Evolves.of_le c s (δ := δ.checking) (δ' := δ.checking) (fun _ h => h) id with
      works := fun _ hd h0 => absurd ⟨hd, h0⟩ h
      front := Debt.checking_frontFits.1 }

/-- The state in which a target port's entries have been freed and the answers for them are owed (R158). -/
def State.purged (s : State) (d : DPort) (l : LinkState) : State :=
  let s := s.setLink (.target d) fun u => { u.emptied with state := l }
  (({ s with tracker := { s.tracker with waiting := s.tracker.waiting.set d none } } : State).freeEntriesOf d).wake

/-- The answers a purge owes (R158). -/
def State.purgeOwes (s : State) (d : DPort) : List (HPort × Byte) := s.headAnswer d ++ s.tracker.purgeAnswers d

/-- A purge: the entries freed, the answers owed, the report, and the drain's end. -/
theorem State.targetLeavesUp_eq (d : DPort) (l : LinkState) :
    s.targetLeavesUp d l =
      (if s.tracker.heldBy d ≠ 0 || !s.targets[d].link.ingress.isEmpty || !s.targets[d].link.egress.isEmpty then
        ((s.purged d l).answerAll d (s.purgeOwes d)).takeReport (purgeReport d (s.tracker.heldBy d))
      else (s.purged d l).answerAll d (s.purgeOwes d)).drainCheck := rfl

theorem State.clearWaiting_calm {m : Prop} (d : DPort) :
    Calms False m s { s with tracker := { s.tracker with waiting := s.tracker.waiting.set d none } } := by
  refine Calm.one (.lists _ ?_ (.inr fun h => Tracker.owing_le h (Nat.le_refl _) fun x => ?_))
  · rfl
  by_cases e : x = d
  · subst e; simp
  · have : d.val ≠ x.val := fun e' => e (Fin.ext e'.symm)
    simp [Vector.getElem_set_ne, this]

/-! ## Port states after a report and after leaving UP -/

theorem State.link_state_setLink (p q : Port) (f : PortUnit → PortUnit) :
    ((s.setLink p f).link q).state = if q = p then (f (s.link p)).state else (s.link q).state := by
  split
  · next h => subst h; rw [State.link_setLink]
  · next h => rw [State.link_setLink_of_ne s h]

/-- The port of a carried-out isolation is ISOLATED at the report, and no other port's state changes (R37). -/
theorem State.takeReport_state (r : Report) (q : Port) : ((s.takeReport r).link q).state =
    if s.reportOutcome r = .carriedOut ∧ q = r.port then .isolated else (s.link q).state := by
  rw [(s.takeReport_calm (g := True) (m := False) r).still.state q]
  unfold State.isolatedBy
  by_cases h : s.reportOutcome r = .carriedOut
  · simp only [h, if_true, true_and, State.link_state_setLink]
  · simp only [h, if_false, false_and]

@[simp] theorem State.drainCheck_link (q : Port) : s.drainCheck.link q = s.link q := by
  unfold State.drainCheck
  split
  · cases q <;> rfl
  · rfl

theorem State.purged_state (d : DPort) (l : LinkState) (q : Port) : ((s.purged d l).link q).state =
    if q = .target d then l else (s.link q).state := by
  have : ((s.purged d l).link q) = (s.setLink (.target d) fun u => { u.emptied with state := l }).link q := by
    cases q <;> rfl
  rw [this, State.link_state_setLink]

/-- A report that names a port out of UP isolates nothing. -/
theorem State.reportOutcome_of_not_up {s : State} {r : Report} (h : (s.link r.port).state ≠ .up) :
    s.reportOutcome r ≠ .carriedOut := by
  unfold State.reportOutcome State.judgeIsolation
  simp only [if_pos h]
  split <;> simp

/-- Leaving UP for a state changes the state of the leaving port alone. -/
theorem State.leavesUp_state (p : Port) (l : LinkState) (hl : l ≠ .up) (q : Port) :
    ((s.leavesUp p l).link q).state = if q = p then l else (s.link q).state := by
  cases p with
  | host h =>
    obtain ⟨u, v, h1, rfl, h2⟩ := s.hostLeavesUp_chain h l
    have ho : (u.orphan h).link q = u.link q := by cases q <;> simp only [State.link, State.orphan_hosts, State.orphan_targets]
    change ((s.hostLeavesUp h l).link q).state = _
    rw [h2.still.state q, ho, h1.still.state q, State.link_state_setLink]
  | target d =>
    change ((s.targetLeavesUp d l).link q).state = _
    rw [State.targetLeavesUp_eq, State.drainCheck_link]
    have hq : ∀ q, (((s.purged d l).answerAll d (s.purgeOwes d)).link q).state =
        if q = .target d then l else (s.link q).state := fun q => by
      rw [(State.answerAll_calm (m := False) _ d _).still.state q, State.purged_state]
    split
    · have hno : ¬ (((s.purged d l).answerAll d (s.purgeOwes d)).reportOutcome
          (purgeReport d (s.tracker.heldBy d)) = .carriedOut) := by
        refine State.reportOutcome_of_not_up ?_
        rw [hq]
        simpa [purgeReport] using hl
      rw [State.takeReport_state, if_neg fun h => hno h.1, hq]
    · exact hq q

/-- A port ISOLATED before a list of reports is ISOLATED after it. -/
theorem State.report_isolated (rs : List Report) (p : Port) (h : (s.link p).state = .isolated) :
    ((s.report rs).link p).state = .isolated := by
  induction rs generalizing s with
  | nil => exact h
  | cons r rs ih =>
    have ht : ((s.takeReport r).link p).state = .isolated := by
      rw [State.takeReport_state]; split
      · rfl
      · exact h
    unfold State.report
    simp only
    split
    · rw [State.leavesUp_state _ _ _ (by decide)]; split
      · rfl
      · exact ih _ ht
    · exact ih _ ht

/-! ## The purge of a target port (R158) -/

theorem State.purged_ort (d : DPort) (l : LinkState) (e : EntryIx) : (s.purged d l).tracker.ort[e] =
    if (s.tracker.ort[e]).state != .free && (s.tracker.ort[e]).target == d then (s.tracker.ort[e]).freed
    else s.tracker.ort[e] := by
  simp [State.purged, State.freeEntriesOf]

theorem State.purged_answers (d : DPort) (l : LinkState) : (s.purged d l).tracker.answers = s.tracker.answers := by
  simp [State.purged, State.freeEntriesOf, State.wake, State.setLink, State.setTarget]

theorem State.purged_waiting (d : DPort) (l : LinkState) :
    (s.purged d l).tracker.waiting = s.tracker.waiting.set d none := by
  simp [State.purged, State.freeEntriesOf, State.wake, State.setLink, State.setTarget]

/-- The answers owed to one host among a list of them. -/
abbrev owedTo (h : HPort) (l : List (HPort × Byte)) : Nat := l.countP fun x => x.1 == h

/-- The packet at the ingress head is owed for only where it waited. -/
theorem State.headAnswer_owed (d : DPort) (l : LinkState) (h : HPort) :
    (s.purged d l).tracker.finalsWaiting h + owedTo h (s.headAnswer d) ≤ s.tracker.finalsWaiting h := by
  have hset := Vector.countP_toList_set s.tracker.waiting d none
    (fun w => w.any fun p : Produced => p.host == h && p.packet.final)
  simp only [Option.any_none, Bool.false_eq_true, if_false, Nat.add_zero] at hset
  unfold Tracker.finalsWaiting
  rw [State.purged_waiting, ← hset]
  refine Nat.add_le_add_left ?_ _
  unfold State.headAnswer
  split
  · next p hp =>
    rw [hp]
    split
    · next hk =>
      rw [Bool.and_eq_true] at hk
      by_cases hh : p.host = h <;> simp [owedTo, hk.1, hh]
    · simp [owedTo]
  · simp

/-- The purge's answers are owed for entries that counted toward their hosts, and count no more. -/
theorem State.purgeAnswers_owed (d : DPort) (l : LinkState) (h : HPort) :
    (s.purged d l).tracker.hostCount h + owedTo h (s.tracker.purgeAnswers d) ≤ s.tracker.hostCount h := by
  have howed : owedTo h (s.tracker.purgeAnswers d) =
      s.tracker.ort.toList.countP fun x => x.host == h && (x.mapped && x.target == d) := by
    simp only [owedTo, Tracker.purgeAnswers, List.countP_map, List.countP_filter, Function.comp_def]
  have hkept : (s.purged d l).tracker.hostCount h =
      s.tracker.ort.toList.countP fun x => x.countsForHost h && !(x.state != .free && x.target == d) := by
    unfold Tracker.hostCount
    rw [Vector.countP_toList_eq, Vector.countP_toList_eq]
    refine List.countP_congr fun e _ => ?_
    rw [State.purged_ort]
    split
    · next hx => rw [hx]; simp [Entry.countsForHost, Entry.inFlight, Entry.freed]
    · next hx => rw [Bool.eq_false_iff.2 hx]; simp
  rw [howed, hkept]
  refine List.countP_add_countP_le _ _ _ _ (fun x hx => (Bool.and_eq_true_iff.1 hx).1) fun x hx => ?_
  simp only [Entry.mapped, Bool.and_eq_true] at hx
  obtain ⟨hh, ⟨⟨hin, ho⟩, -⟩, ht⟩ := hx
  have hne : x.state ≠ .free := fun hf => by simp [Entry.inFlight, hf] at hin
  simp [Entry.countsForHost, hin, ho, hh, ht, hne]

theorem State.appendAnswer_owing (h : HPort) (tag : Byte) (st : Status) (d : DPort) (k : HPort) :
    (s.appendAnswer h tag st d).tracker.owing k ≤ s.tracker.owing k + if h = k then 1 else 0 := by
  refine ((State.placeTracker_calm (m := False) _ h).owing k).trans ?_
  by_cases e : h = k
  · subst e; simp [Tracker.owing, Tracker.finalsWaiting]; omega
  · have : h.val ≠ k.val := fun e' => e (Fin.ext e')
    simp [Tracker.owing, Tracker.finalsWaiting, Vector.getElem_set_ne, this, e]

theorem State.answerAll_owing (d : DPort) (l : List (HPort × Byte)) (k : HPort) :
    (s.answerAll d l).tracker.owing k ≤ s.tracker.owing k + owedTo k l := by
  induction l generalizing s with
  | nil => simp [State.answerAll]
  | cons x l ih =>
    have h1 := s.appendAnswer_owing x.1 x.2 .unreachable d k
    have h2 := ih (s.appendAnswer x.1 x.2 .unreachable d)
    have h3 : owedTo k (x :: l) = owedTo k l + if x.1 = k then 1 else 0 := by simp [owedTo, List.countP_cons]
    change ((s.appendAnswer x.1 x.2 .unreachable d).answerAll d l).tracker.owing k ≤ _
    omega

/-- The state after a purge, before its report. -/
def State.purgedAndAnswered (s : State) (d : DPort) (l : LinkState) : State := (s.purged d l).answerAll d (s.purgeOwes d)

theorem State.purgedAndAnswered_still (d : DPort) (l : LinkState) : Still (s.purged d l) (s.purgedAndAnswered d l) :=
  (State.answerAll_calm (m := False) _ d _).still

theorem State.purgedAndAnswered_front (d : DPort) (l : LinkState) : SameFront s (s.purgedAndAnswered d l) :=
  SameFront.trans (t := s.purged d l) ⟨fun _ => rfl, fun _ => rfl, rfl, rfl, rfl, rfl⟩
    (State.answerAll_calm _ d _).sameFront

theorem State.purgedAndAnswered_grant (d : DPort) (l : LinkState) : SameGrant s (s.purgedAndAnswered d l) :=
  (State.answerAll_calm (m := False) (s.purged d l) d (s.purgeOwes d)).sameGrant

/-- A purge leaves no entry that names the port, and owes no host more than before. -/
theorem State.purgedAndAnswered_evolves (d : DPort) (l : LinkState) (hl : l.Quits)
    (hs : s.targets[d].link.state = .up ∨ s.targets[d].link.state = .isolated) :
    Evolves c (δ.leaving (.target d)) δ.checking s (s.purgedAndAnswered d l) where
  micros := by
    have hstate : Micros c s (s.setLink (.target d) fun u => { u.emptied with state := l }) :=
      .one (.state (.target d) _ (.left l hs hl.1 hl.2))
    refine ((hstate.trans ((State.clearWaiting_calm (m := False) _ d).micros c)).trans (.trans (.one (.entries _ fun e => ?_))
      ((State.wake_calm (g := True) (m := False) _).micros c))).trans ((State.answerAll_calm (m := False) _ d _).micros c)
    have := s.purged_ort d l e
    simp only [State.purged, State.freeEntriesOf] at this
    simp only [Fin.getElem_fin, Vector.getElem_ofFn]
    split
    · exact .freed
    · exact .same
  aimed h e he := by
    have hstill := s.purgedAndAnswered_still d l
    rw [hstill.ort, State.purged_ort] at he ⊢
    split at he
    · exact absurd rfl he
    · next hx =>
      rw [if_neg hx, hstill.targetUp]
      have hne : (s.tracker.ort[e]).target ≠ d := fun ht =>
        hx (Bool.and_eq_true_iff.2 ⟨bne_iff_ne.2 he, beq_iff_eq.2 ht⟩)
      rcases h e he with hup | hleft | hd
      · left
        rw [State.targetUp_iff] at hup ⊢
        rw [State.purged_state, if_neg fun e => hne (Port.target.inj e)]
        exact hup
      · exact .inr hleft
      · exact absurd (Port.target.inj hd).symm hne
  works _ _ _ := trivial
  load h k := by
    have h1 := (s.purged d l).answerAll_owing d (s.purgeOwes d) k
    have h2 := s.headAnswer_owed d l k
    have h3 := s.purgeAnswers_owed d l k
    have h4 : owedTo k (s.purgeOwes d) = owedTo k (s.headAnswer d) + owedTo k (s.tracker.purgeAnswers d) := by
      simp [owedTo, State.purgeOwes]
    have h5 := h k
    have h6 : (s.purgedAndAnswered d l).tracker.hostCount k = (s.purged d l).tracker.hostCount k := by
      simp only [Tracker.hostCount, (s.purgedAndAnswered_still d l).ort]
    simp only [Tracker.load, Tracker.owing, State.purged_answers, State.purgedAndAnswered] at *
    omega
  front hf := (s.purgedAndAnswered_front d l).fits (Debt.checking_frontFits.2
    ⟨⟨fun k => (hf.heads k).imp_left fun hl => Or.resolve_right hl (by simp), hf.quiet⟩, hf.unit⟩)
  access _ _ h := h.of_same (s.purgedAndAnswered_grant d l) fun a ha => by
    rwa [(s.purgedAndAnswered_front d l).work.1] at ha

/-- The purge's own report isolates nothing: its port is no longer UP. -/
theorem State.purgeReport_calm {g m : Prop} (d : DPort) (l : LinkState) (hl : l ≠ .up) (n : Nat) :
    Calms g m (s.purgedAndAnswered d l) ((s.purgedAndAnswered d l).takeReport (purgeReport d n)) := by
  refine State.takeReport_calm_of_not_carriedOut _ (State.reportOutcome_of_not_up ?_)
  change ((s.purgedAndAnswered d l).link (.target d)).state ≠ .up
  rw [(s.purgedAndAnswered_still d l).state, State.purged_state, if_pos rfl]
  exact hl

/-- A target port's leaving UP settles the purge owed for it and the drain's check. -/
theorem State.targetLeavesUp_evolves (d : DPort) (l : LinkState) (hl : l.Quits)
    (hs : s.targets[d].link.state = .up ∨ s.targets[d].link.state = .isolated) :
    Evolves c (δ.leaving (.target d)) δ s (s.targetLeavesUp d l) := by
  have hp := s.purgedAndAnswered_evolves (c := c) (δ := δ) d l hl hs
  rw [State.targetLeavesUp_eq]
  split
  · exact (hp.trans ((s.purgeReport_calm d l hl.1 _).evolves c)).trans (State.drainCheck_evolves _)
  · exact hp.trans (State.drainCheck_evolves _)

/-- A port's leaving UP settles its leave-UP effects, owed or not. -/
theorem State.leavesUp_evolves (p : Port) (l : LinkState) (hl : l.Quits)
    (hs : (s.link p).state = .up ∨ (s.link p).state = .isolated) : Evolves c (δ.leaving p) δ s (s.leavesUp p l) := by
  cases p with
  | host h => exact s.hostLeavesUp_evolves h l hl hs
  | target d => exact s.targetLeavesUp_evolves d l hl hs

/-- A port's leaving UP where nothing was owed for it. -/
theorem State.leavesUp_evolves_same (p : Port) (l : LinkState) (hl : l.Quits)
    (hs : (s.link p).state = .up ∨ (s.link p).state = .isolated) : Evolves c δ δ s (s.leavesUp p l) :=
  (Evolves.owes s p).trans (s.leavesUp_evolves p l hl hs)

/-! ## Reports and port commands -/

/-- The reports of one event: each isolation owes its leave-UP effects until they follow the reports (R161). -/
theorem State.report_evolves (rs : List Report) : Evolves c δ δ s (s.report rs) := by
  induction rs generalizing s δ with
  | nil => exact .refl c s
  | cons r rs ih =>
    unfold State.report
    simp only
    split
    · next ho =>
      refine ((s.takeReport_evolves r).trans (ih _)).trans (State.leavesUp_evolves _ _ _ ⟨by decide, by decide⟩
        (.inr (State.report_isolated _ _ _ ?_)))
      rw [State.takeReport_state, if_pos ⟨ho, rfl⟩]
    · next ho => exact ((s.takeReport_calm_of_not_carriedOut ho).evolves c).trans (ih _)

theorem State.takeDown_evolves (p : Port) (l : LinkState) (hl : l.Quits) : Evolves c δ δ s (s.takeDown p l) := by
  have h1 : Evolves c δ δ s (if (s.link p).state = .up then s.leavesUp p l else s) := by
    split
    · next h => exact s.leavesUp_evolves_same p l hl (.inl h)
    · exact .refl c s
  have hnot : ((if (s.link p).state = .up then s.leavesUp p l else s).link p).state ≠ .up := by
    split
    · rw [State.leavesUp_state _ _ _ hl.1, if_pos rfl]; exact hl.1
    · next h => exact h
  have h2 := h1.trans (State.setLink_evolves_of_not_up (c := c) (δ := δ) _ p (fun u => u.closed l) (.closed l hl.1 hl.2)
    hnot hl.1 (.inl rfl))
  unfold State.takeDown
  cases p with
  | host h =>
    exact (h2.trans ((State.endIsolatedWait_calm _ h).evolves c)).trans (State.discardAnswer_evolves _ h)
  | target d => exact h2.trans ((State.wake_calm _).evolves c)

theorem State.judgeIsolation_up {s : State} {p : Port} (h : s.judgeIsolation p = .carriedOut) :
    (s.link p).state = .up := by
  unfold State.judgeIsolation at h
  by_contra hup
  simp [hup] at h

theorem State.requestIsolation_evolves (p : Port) : Evolves c δ δ s (s.requestIsolation p) := by
  unfold State.requestIsolation
  split
  · next h => exact s.leavesUp_evolves_same p .isolated ⟨by decide, by decide⟩ (.inl (State.judgeIsolation_up h))
  · exact .refl c s

theorem State.isolatePort_evolves (p : Port) : Evolves c δ δ s (s.isolatePort p) := by
  unfold State.isolatePort
  split
  · next h => exact s.leavesUp_evolves_same p .isolated ⟨by decide, by decide⟩ (.inl h)
  · exact .refl c s

theorem State.resetPort_evolves (p : Port) : Evolves c δ δ s (s.resetPort p) := by
  have h := s.takeDown_evolves (c := c) (δ := δ) p .down ⟨by decide, by decide⟩
  unfold State.resetPort
  cases p with
  | host k =>
    refine (h.trans (((State.setClassPtr_calm _ k .localAnswer).trans (State.emptyLatch_calm _ k)).evolves c)).trans
      (Calms.evolves c (Calm.one (.lists _ ?_ (.inr fun x => Tracker.owing_le x ?_ fun _ => .inl rfl))))
    · rfl
    · exact Nat.le_refl _
  | target d => exact h

theorem State.restore_evolves (p : Port) (h : (s.link p).state = .isolated) : Evolves c δ δ s (s.restore p) := by
  cases p with
  | host k =>
    have hlink := s.setHostLink_evolves (c := c) (δ := δ.leaving (.host k)) k (fun u => { u with state := .up }) (.restored h)
      fun hs => hs.setHostLink k _ (.inl (Or.inr rfl)) fun h1 => absurd (by rw [s.setLink_host_self]) h1
    have hflag := (State.endIsolatedWait_calm (g := False) (m := False)
      (s.setLink (.host k) fun u => { u with state := .up }) k).evolves (δ := δ.leaving (.host k)) c
    have hstate : (((s.setLink (.host k) fun u => { u with state := .up }).setHost k
        fun x => { x with isolatedWaits := false }).hosts[k]).link.state = .up := by
      simp [State.setLink]
    unfold State.restore
    simp only
    generalize ((s.setLink (.host k) fun u => { u with state := .up }).setHost k
      fun x => { x with isolatedWaits := false }) = u at hflag hstate ⊢
    have hhead := u.setHead_evolves (c := c) (δ := δ.leaving (.host k)) k
      (if (u.hosts[k]).link.ingress.isEmpty then .noHead else .presented) (.inl (Or.inr rfl))
    refine ((((Evolves.owes s _).trans hlink).trans hflag).trans hhead).trans ((Evolves.settles _ k ?_).trans
      ((State.sendNotification_calm _).evolves c))
    rw [show (u.setHead k _).admission.heads[k] = _ from u.setHead_self k _]
    exact headFits_next (s := u.setHead k _) hstate
  | target d =>
    exact (s.setTargetLink_evolves d (fun u => { u with state := .up }) (.restored h) fun _ => .inl rfl).trans
      ((State.wake_calm _).evolves c)

theorem State.act_evolves (x : SelfAction) : Evolves c δ δ s (s.act x) := by
  cases x with
  | portReset h =>
    simp only [State.act]
    split
    · exact .refl c s
    · exact s.resetPort_evolves _
  | portDisable h => exact s.takeDown_evolves (.host h) .disabled ⟨by decide, by decide⟩
  | portIsolate h => exact s.isolatePort_evolves _
  | portRestore h =>
    simp only [State.act]
    split
    · next hs => exact s.restore_evolves _ hs
    · exact .refl c s
  | warmReset => exact .refl c s

end Sys2Proof.Machine

/-! PROOFS. Evaluations of heads, passes, and the commands as chains of small changes. -/

namespace Sys2Proof.Machine

-- One proof at a time: side by side they take more memory than the check allows.
set_option Elab.async false

variable {c : Instr} {δ : Debt} (s : State)

/-! ## What an admission rests on (R99) -/

/-- A refusal is no admission. -/
theorem refuse_ne_admitting (p : Packet) (st : Status) (f : Report) (x : Admitted) : refuse p st f ≠ .admitting x := by
  unfold refuse; split <;> simp

/-- An admission is an answer of checks 7 and 8 (R106 to R108). -/
theorem State.decideRouted_admitting {s : State} {h : HPort} {p : Packet} {convert : Bool} {y x : Admitted}
    (hd : s.decideRouted h p convert y = .admitting x) :
    x = { y with kind := trackedAs p convert } ∧ s.egressFull y.target = false ∧
      ∀ k, trackedAs p convert = some k → s.duplicateOf h p k = none ∧ (s.missing h y.target).any = false := by
  unfold State.decideRouted at hd
  split at hd
  · next hk =>
    split at hd
    · cases hd
    · next hf =>
      cases hd
      exact ⟨by rw [hk], by simpa using hf, fun k hk' => by rw [hk] at hk'; cases hk'⟩
  · next k hk =>
    split at hd
    · cases hd
    · next hdup =>
      split at hd
      · cases hd
      · next hm =>
        cases hd
        have hm' : (s.missing h y.target).any = false := by simpa using hm
        refine ⟨by rw [hk], ?_, fun k' hk' => ?_⟩
        · simp only [Missing.any, Bool.or_eq_false_iff] at hm'
          exact hm'.1.2
        · rw [hk] at hk'; cases hk'; exact ⟨hdup, hm'⟩

/-- A request is admitted only past every check (R99 to R108). -/
theorem State.decideHead_admitting {s : State} {h : HPort} {p : Packet} {x : Admitted}
    (hd : s.decideHead h p = .admitting x) :
    p.wellFormedRequest = true ∧ blockOf p.address ≠ s.mgmt.apertureBase ∧ s.commit.engine ≠ .draining ∧
    s.targetUp x.target = true ∧ s.egressFull x.target = false ∧
    ∃ convert, s.banks.classify s.mgmt.apertureBase h p.kind p.address =
        .routed x.window x.target x.address convert x.generation ∧ x.kind = trackedAs p convert ∧
      ∀ k, x.kind = some k → s.duplicateOf h p k = none ∧ (s.missing h x.target).any = false := by
  unfold State.decideHead at hd
  split at hd
  · exact absurd hd (refuse_ne_admitting _ _ _ _)
  next hw =>
  split at hd
  · split at hd
    · cases hd
    · exact absurd hd (refuse_ne_admitting _ _ _ _)
  next hb =>
  split at hd
  · cases hd
  next he =>
  unfold State.decideClassified at hd
  split at hd
  · cases hd
  · exact absurd hd (refuse_ne_admitting _ _ _ _)
  · exact absurd hd (refuse_ne_admitting _ _ _ _)
  · unfold discardAnswerOf at hd
    split at hd <;> cases hd
  · next w d a convert g hcl =>
    split at hd
    · next hup =>
      obtain ⟨rfl, hf, hk⟩ := State.decideRouted_admitting hd
      exact ⟨by simpa using hw, hb, he, hup, hf, convert, hcl, rfl, hk⟩
    · exact absurd hd (refuse_ne_admitting _ _ _ _)

/-- The lowest-numbered FREE entry is FREE, and the entries below it are not (R127). -/
theorem Tracker.lowestFree_eq_some_iff (t : Tracker) (e : EntryIx) : t.lowestFree = some e ↔
    (t.ort[e]).state = .free ∧ ∀ f : EntryIx, f < e → (t.ort[f]).state ≠ .free := by
  unfold Tracker.lowestFree
  rw [List.find?_eq_some_iff_getElem]
  constructor
  · rintro ⟨h1, i, hi, h2, h3⟩
    have he : i = e.val := by simpa using congrArg Fin.val h2
    refine ⟨by simpa using h1, fun f hf => ?_⟩
    have := h3 f.val (by rw [he]; exact hf)
    simpa using this
  · rintro ⟨h1, h2⟩
    refine ⟨by simpa using h1, e.val, by simp, by simp, fun j hj => ?_⟩
    simpa using h2 ⟨j, by omega⟩ hj

theorem State.placeTarget_calm (d : DPort) (p : Packet) (hup : s.targetUp d = true)
    (hf : s.egressFull d = false) {g m : Prop} : Calms g m s (s.placeTarget d p) := by
  refine s.setLink_calm (.target d) _ (.place p ?_ ?_) (.inr fun _ e => by cases e)
  · have hu : s.targets[d].link.state = .up := by simpa [State.targetUp] using hup
    change s.targets[d].link.state.carries = true
    rw [hu]; rfl
  · change s.targets[d].link.egress.length < Config.targetEgressCapacity
    simpa [State.egressFull] using hf

/-! ## Evaluations and passes -/

/-- Final packets wait for a host at six ingress heads at most. -/
theorem Tracker.finalsWaiting_le (t : Tracker) (h : HPort) : t.finalsWaiting h ≤ 6 := by
  have := List.countP_le_length (l := t.waiting.toList) (p := fun w => w.any fun p => p.host == h && p.packet.final)
  exact this.trans (by simp)

/-- An allocation, with what checks 6 to 8 found: the target UP, the tag unheld, room for the answer (R105 to R108). -/
theorem State.allocated_evolves (h : HPort) (p : Packet) (x : Admitted) (k : EntryKind) (e : EntryIx) (m : Option Nat)
    (htag : k ≠ .writeConverted → s.tracker.tagHolder h p.tag = none) (hup : s.targetUp x.target = true)
    (hfree : (s.tracker.ort[e]).state = .free)
    (hroom : s.tracker.hostCount h + (s.tracker.answers[h]).length < Config.answerRoomBound) :
    Evolves c δ δ s (s.setEntry e fun y => y.allocated h p x k m) where
  micros := .one (.allocate h p x k e m htag hup hfree)
  aimed hs f hf := by
    by_cases hfe : f = e
    · subst hfe
      simp only [Fin.getElem_fin, State.setEntry_self]
      exact .inl hup
    · have := s.setEntry_other e f (fun y => y.allocated h p x k m) hfe
      simp only [Fin.getElem_fin, this] at hf ⊢
      exact hs f hf
  works _ _ h0 := by
    have hc := Vector.countP_toList_set s.tracker.ort e ((s.tracker.ort[e]).allocated h p x k m) (·.inFlight)
    have hin : ((s.tracker.ort[e]).allocated h p x k m).inFlight = true := rfl
    have hout : (s.tracker.ort[e]).inFlight = false := by unfold Entry.inFlight; rw [hfree]; rfl
    simp only [hin, hout, if_true, Bool.false_eq_true, if_false] at hc
    exact absurd (hc.symm.trans h0) (Nat.succ_ne_zero _)
  load hs g := by
    have hc := Vector.countP_toList_set s.tracker.ort e ((s.tracker.ort[e]).allocated h p x k m) (·.countsForHost g)
    have hout : (s.tracker.ort[e]).countsForHost g = false := by
      unfold Entry.countsForHost Entry.inFlight; rw [hfree]; rfl
    have hin : ((s.tracker.ort[e]).allocated h p x k m).countsForHost g = true ↔ h = g := by
      simp [Entry.countsForHost, Entry.inFlight, Entry.allocated]
    simp only [hin, hout, Bool.false_eq_true, if_false, Nat.add_zero] at hc
    have hs := hs g
    have hfin := s.tracker.finalsWaiting_le g
    simp only [Config.answerRoomBound] at hroom
    simp only [Tracker.load, Tracker.owing, Tracker.hostCount] at hs hroom ⊢
    change (s.tracker.answers[g]).length + s.tracker.finalsWaiting g + (s.tracker.ort.set e
      ((s.tracker.ort[e]).allocated h p x k m)).toList.countP (·.countsForHost g) ≤ 134
    rw [hc]
    split
    · next hg => subst hg; omega
    · exact hs
  front := SameFront.fits ⟨fun _ => rfl, fun _ => rfl, rfl, rfl, rfl, rfl⟩
  access _ _ h := h.of_same ⟨rfl, rfl⟩ fun _ => id

/-- A chain at which one host port's leave-UP effects are owed is one without, where the head conditions fit. -/
theorem Evolves.of_leaving_host {s t : State} {h : HPort} (he : Evolves c (δ.leaving (.host h)) (δ.leaving (.host h)) s t)
    (hf : δ.FrontFits s → δ.FrontFits t) : Evolves c δ δ s t := by
  have hleft : ∀ d, (δ.leaving (.host h)).left (.target d) ↔ δ.left (.target d) := fun d =>
    ⟨fun hl => Or.resolve_right hl (by simp), Or.inl⟩
  exact { he with
    aimed := fun ha e hne => (he.aimed (fun e hne => (ha e hne).imp_right (hleft _).2) e hne).imp_right (hleft _).1
    works := he.works
    front := hf }

/-- A head can be taken from where it stands: at an UP port that holds a packet, or at one whose leave-UP effects are
owed. -/
def Debt.Evaluable (δ : Debt) (s : State) (h : HPort) : Prop :=
  δ.left (.host h) ∨ (s.hosts[h]).link.state = .up ∧ (s.hosts[h]).link.ingress ≠ []

theorem State.takeHead_evolves (h : HPort) (hok : δ.left (.host h) ∨ (s.hosts[h]).link.state = .up) :
    Evolves c δ δ s (s.removeHead h) := by
  rcases hok with hl | hup
  · exact (s.popHost_evolves h hl).trans (State.setHead_evolves _ h _ (.inl hl))
  · exact s.removeHead_evolves h hup

theorem State.waits_evolves (h : HPort) (r : WaitReason) (hok : δ.Evaluable s h) :
    Evolves c δ δ s (s.setHead h (.waiting r)) :=
  s.setHead_evolves h _ (hok.imp_right fun ⟨h1, h2⟩ => headFits_waiting r h1 h2)

theorem State.admitting_evolves (h : HPort) (p : Packet) (x : Admitted) (hd : s.decideHead h p = .admitting x)
    (hok : δ.Evaluable s h) : Evolves c δ δ s (s.admitting h p x) := by
  obtain ⟨-, -, -, hup, hf, convert, -, -, hk⟩ := State.decideHead_admitting hd
  have htail : ∀ u : State, u.hosts = s.hosts → Evolves c δ δ u { u.removeHead h with
      admission := { (u.removeHead h).admission with pointer := h + 1 } } := fun u hu =>
    (u.takeHead_evolves h (hok.imp_right fun ho => by rw [hu]; exact ho.1)).trans
      (Calms.evolves c ((u.removeHead h).admission_calm { (u.removeHead h).admission with pointer := h + 1 } (.inr rfl)))
  unfold State.admitting
  refine Evolves.trans ?_ (htail _ ?_)
  · split
    · exact (s.placeTarget_calm _ _ hup hf).evolves c
    · next k e hkind hfree =>
      obtain ⟨hdup, hmiss⟩ := hk k hkind
      refine (s.allocated_evolves h p x k e (s.deadlineFor x.target) (fun hc => ?_) hup
        ((s.tracker.lowestFree_eq_some_iff e).1 hfree).1 ?_).trans
        ((State.placeTarget_calm (s.setEntry e _) x.target _ hup hf).evolves c)
      · unfold State.duplicateOf at hdup
        rwa [if_neg hc] at hdup
      · simp only [Missing.any, Bool.or_eq_false_iff] at hmiss
        exact not_le.1 (of_decide_eq_false hmiss.2)
    · exact .refl c s
  · split <;> rfl

theorem State.answerLocally_evolves (h : HPort) (b : Bool) (p : Packet) (f : Option Report)
    (hb : b = true → s.hostHasRoom h = true) (hok : δ.Evaluable s h) : Evolves c δ δ s (s.answerLocally h b p f) := by
  unfold State.answerLocally
  split
  · next hr =>
    have hroom : s.hostHasRoom h = true := by
      rcases Bool.or_eq_true_iff.1 hr with e | e
      · exact hb e
      · exact State.hostHasRoom_of_givesRoom e
    exact (((s.placeHost_calm h _ p hroom).evolves c).trans (State.takeHead_evolves _ h
      (hok.imp_right fun ho => (s.placeHost_kept h h .localAnswer p).1.trans ho.1))).trans (State.report_evolves _ _)
  · exact s.waits_evolves h _ hok

theorem State.evaluate_evolves (h : HPort) (b : Bool) (hb : b = true → s.hostHasRoom h = true) (hok : δ.Evaluable s h) :
    Evolves c δ δ s (s.evaluate h b) := by
  have hup : δ.left (.host h) ∨ (s.hosts[h]).link.state = .up := hok.imp_right And.left
  unfold State.evaluate
  split
  · exact .refl c s
  · next p _ _ =>
    generalize hd : s.decideHead h p = d
    cases d with
    | answer a f => exact s.answerLocally_evolves h b a f hb hok
    | drop f => exact (s.takeHead_evolves h hup).trans (State.report_evolves _ _)
    | divert => exact s.waits_evolves h _ hok
    | wait r => exact s.waits_evolves h r hok
    | admitting x => exact s.admitting_evolves h p x hd hok

/-- An evaluation of a head that is PRESENTED or WAITING. -/
theorem State.evaluate_evolves_of_evaluable (h : HPort) (b : Bool) (hb : b = true → s.hostHasRoom h = true)
    (he : (s.admission.heads[h]).evaluable = true) : Evolves c δ δ s (s.evaluate h b) := by
  by_cases hok : δ.Evaluable s h
  · exact s.evaluate_evolves h b hb hok
  · refine Evolves.of_leaving_host (s.evaluate_evolves h b hb (.inl (Or.inr rfl))) fun hs => absurd ?_ hok
    exact (hs.heads h).imp_right fun hk => hk.of_evaluable he

theorem State.visit_evolves (h : HPort) : Evolves c δ δ s (s.visit h) := by
  unfold State.visit
  split
  · next he => exact s.evaluate_evolves_of_evaluable h false (by simp) he
  · exact .refl c s

theorem State.visits_evolves (l : List HPort) : Evolves c δ δ s (l.foldl State.visit s) := by
  induction l generalizing s with
  | nil => exact .refl c s
  | cons h l ih => exact (s.visit_evolves h).trans (ih _)

/-! ## What a pass diverts (R114, R117) -/

/-- A head that waits for the management unit asks for an access that may begin. -/
def Diverted (s : State) (h : HPort) : Prop :=
  s.admission.heads[h] = .waiting .management → ∀ p rest, (s.hosts[h]).link.ingress = p :: rest →
    s.Grants { port := h, packet := p }

/-- Grant and aperture base stay, and of the heads of the ports named by `P` those that wait stand where they stood. -/
structure HeadsKept (P : HPort → Prop) (s t : State) : Prop where
  grant : SameGrant s t
  heads : ∀ h, P h → (∀ r, t.admission.heads[h] ≠ .waiting r) ∨
    t.admission.heads[h] = s.admission.heads[h] ∧ (t.hosts[h]).link.ingress = (s.hosts[h]).link.ingress

section
variable {P Q : HPort → Prop} {s t u : State}

theorem HeadsKept.refl (s : State) : HeadsKept P s s := ⟨⟨rfl, rfl⟩, fun _ _ => .inr ⟨rfl, rfl⟩⟩

theorem HeadsKept.mono (h : HeadsKept P s t) (hQ : ∀ k, Q k → P k) : HeadsKept Q s t :=
  ⟨h.grant, fun k hk => h.heads k (hQ k hk)⟩

theorem HeadsKept.not_waiting (h : HeadsKept P s t) {k : HPort} (hk : P k) (hs : ∀ r, s.admission.heads[k] ≠ .waiting r) :
    ∀ r, t.admission.heads[k] ≠ .waiting r := by
  rcases h.heads k hk with hn | ⟨he, -⟩
  · exact hn
  · rw [he]; exact hs

theorem HeadsKept.trans (h : HeadsKept P s t) (k : HeadsKept P t u) : HeadsKept P s u where
  grant := ⟨k.grant.1.trans h.grant.1, k.grant.2.trans h.grant.2⟩
  heads x hx := by
    rcases k.heads x hx with hn | ⟨h1, h2⟩
    · exact .inl hn
    · rw [h1, h2]; exact h.heads x hx

theorem HeadsKept.diverted {h : HPort} (hk : HeadsKept P s t) (hP : P h) (hs : Diverted s h) : Diverted t h := by
  intro hw p rest hp
  rcases hk.heads h hP with hn | ⟨h1, h2⟩
  · exact absurd hw (hn _)
  · have := hs (h1 ▸ hw) p rest (h2 ▸ hp)
    unfold State.Grants State.granted at this ⊢
    rw [hk.grant.1, hk.grant.2]
    exact this

theorem SameFront.kept (h : SameFront s t) (hg : SameGrant s t) : HeadsKept P s t :=
  ⟨hg, fun k _ => .inr ⟨by rw [h.heads], h.ingress k⟩⟩

theorem Calms.kept {g : Prop} (h : Calms g False s t) : HeadsKept P s t := h.sameFront.kept h.sameGrant

theorem Diverted.of_not_waiting {h : HPort} (hn : ∀ r, s.admission.heads[h] ≠ .waiting r) : Diverted s h :=
  fun hw => absurd hw (hn _)

theorem State.freeUnit_kept (h : HPort) : HeadsKept P s (s.freeUnit h) where
  grant := (s.freeUnit_calm (g := True) h).sameGrant
  heads k _ := by
    rw [s.freeUnit_hosts, State.freeUnit_eq, State.wake_admission_heads]
    by_cases hk : s.unitFreed.admission.heads[k] = .held ∧ k = h
    · obtain ⟨hheld, rfl⟩ := hk
      rw [State.leaveHeld_head_self hheld]
      left
      split <;> simp
    · rw [State.leaveHeld_head_other fun hheld e => hk ⟨hheld, e⟩]
      exact .inr ⟨rfl, rfl⟩

theorem State.discardAnswer_kept (h : HPort) : HeadsKept P s (s.discardAnswer h) := by
  have hgone : HeadsKept P s ((s.clearAnswer h).answerGone h) := by
    refine ⟨((s.clearAnswer_calm (g := True) h).trans (State.answerGone_calm _ h)).sameGrant, ?_⟩
    unfold State.answerGone
    split
    · split
      · unfold State.completeSelf
        simp only
        split <;> exact (State.freeUnit_kept _).heads
      · exact fun _ _ => .inr ⟨rfl, rfl⟩
    · exact fun _ _ => .inr ⟨rfl, rfl⟩
  unfold State.discardAnswer
  split
  · exact .refl s
  · exact hgone

theorem State.isolatedBy_kept (r : Report) : HeadsKept P s (s.isolatedBy r) := by
  unfold State.isolatedBy
  split
  · generalize r.port = p
    cases p with
    | target d => exact ⟨⟨rfl, rfl⟩, fun _ _ => .inr ⟨rfl, rfl⟩⟩
    | host h =>
      refine ⟨⟨rfl, rfl⟩, fun k _ => .inr ⟨rfl, ?_⟩⟩
      by_cases e : k = h
      · subst e; rw [s.setLink_host_self]
      · rw [s.setLink_host_other h k _ e]
  · exact .refl s

theorem State.takeReport_kept (r : Report) : HeadsKept P s (s.takeReport r) :=
  (State.isolatedBy_kept r).trans (s.takeReport_calm (g := True) r).kept

theorem State.hostLeft_kept (h : HPort) (l : LinkState) : HeadsKept P s (s.hostLeft h l) := by
  have hended : ∀ f : HostPort → HostPort, HeadsKept P s ((s.setHost h f).setHead h .noHead) := fun f =>
    ⟨⟨rfl, rfl⟩, fun k _ => by
      by_cases e : k = h
      · subst e
        left
        intro r
        rw [show ((s.setHost k f).setHead k .noHead).admission.heads[k] = .noHead from State.setHead_self _ k _]
        simp
      · have hhost : (s.setHost h f).hosts[k] = s.hosts[k] := s.setHost_other h k f e
        exact .inr ⟨State.setHead_other _ h k _ e, congrArg (fun x : HostPort => x.link.ingress) hhost⟩⟩
  have horphan : ∀ u : State, HeadsKept P u (u.orphan h) := fun u =>
    ⟨⟨by rw [State.orphan_mgmt], by rw [State.orphan_mgmt]⟩,
      fun k _ => .inr ⟨by rw [State.orphan_admission], by rw [State.orphan_hosts]⟩⟩
  exact (((hended _).trans (State.withdrawWaiting_calm (g := True) _ h).kept).trans (horphan _)).trans
    (((State.emptyLatch_calm (g := True) _ h).trans (State.withdrawCopy_calm _ h)).trans (State.wake_calm _)).kept

theorem State.leavesUp_kept (p : Port) (l : LinkState) (hl : l ≠ .up) : HeadsKept P s (s.leavesUp p l) := by
  cases p with
  | host h =>
    change HeadsKept P s (s.hostLeavesUp h l)
    rw [State.hostLeavesUp_eq]
    split
    · exact (State.hostLeft_kept h l).trans (State.discardAnswer_kept h)
    · exact State.hostLeft_kept h l
  | target d =>
    change HeadsKept P s (s.targetLeavesUp d l)
    have hcheck : ∀ v : State, HeadsKept P v v.drainCheck := fun v => by
      unfold State.drainCheck
      split
      · exact ⟨⟨rfl, rfl⟩, fun _ _ => .inr ⟨rfl, rfl⟩⟩
      · exact .refl v
    have hpurge : HeadsKept P s (s.purgedAndAnswered d l) := (s.purgedAndAnswered_front d l).kept (s.purgedAndAnswered_grant d l)
    rw [State.targetLeavesUp_eq]
    refine HeadsKept.trans ?_ (hcheck _)
    split
    · exact hpurge.trans (s.purgeReport_calm (g := True) d l hl _).kept
    · exact hpurge

/-- A report leaves waiting heads where they stood, or ends them with their port. -/
theorem State.report_kept (rs : List Report) : HeadsKept P s (s.report rs) := by
  induction rs generalizing s with
  | nil => exact .refl s
  | cons r rs ih =>
    unfold State.report
    simp only
    split
    · exact ((State.takeReport_kept r).trans ih).trans (State.leavesUp_kept _ _ (by decide))
    · exact (State.takeReport_kept r).trans ih

theorem State.setHead_kept (h : HPort) (x : HeadCondition) : HeadsKept (· ≠ h) s (s.setHead h x) :=
  ⟨⟨rfl, rfl⟩, fun k hk => .inr ⟨s.setHead_other h k x hk, rfl⟩⟩

theorem State.removeHead_kept (h : HPort) : HeadsKept (· ≠ h) s (s.removeHead h) := by
  refine HeadsKept.trans (t := s.popIngress (.host h)) ⟨⟨rfl, rfl⟩, fun k hk => .inr ⟨rfl, ?_⟩⟩ (State.setHead_kept h _)
  exact congrArg (fun x : HostPort => x.link.ingress) (s.setLink_host_other h k _ hk)

/-- A head that has been removed waits for nothing. -/
theorem State.removeHead_not_waiting (h : HPort) (r : WaitReason) : (s.removeHead h).admission.heads[h] ≠ .waiting r := by
  rw [show (s.removeHead h).admission.heads[h] = _ from State.setHead_self (s.popIngress (.host h)) h _]
  split <;> simp

/-- Only a diversion waits for the management unit. -/
theorem State.decideHead_ne_wait_management (h : HPort) (p : Packet) : s.decideHead h p ≠ .wait .management := by
  have hrefuse : ∀ st f, refuse p st f ≠ .wait .management := fun st f => by unfold refuse; split <;> simp
  unfold State.decideHead
  split
  · exact hrefuse _ _
  · split
    · split
      · simp
      · exact hrefuse _ _
    · split
      · simp
      · unfold State.decideClassified
        split
        · simp
        · exact hrefuse _ _
        · exact hrefuse _ _
        · unfold discardAnswerOf; split <;> simp
        · split
          · unfold State.decideRouted
            split
            · split <;> simp
            · split
              · simp
              · split <;> simp
          · exact hrefuse _ _

/-- A request is diverted only where an access of it may begin (R49, R99, R101). -/
theorem State.decideHead_divert {h : HPort} {p : Packet} (hd : s.decideHead h p = .divert) :
    s.Grants { port := h, packet := p } := by
  have hrefuse : ∀ st f, refuse p st f ≠ .divert := fun st f => by unfold refuse; split <;> simp
  unfold State.decideHead at hd
  split at hd
  · exact absurd hd (hrefuse _ _)
  · next hw =>
    split at hd
    · next hb =>
      split at hd
      · next hg => exact ⟨hg, by simpa using hw, hb⟩
      · exact absurd hd (hrefuse _ _)
    · next hb =>
      split at hd
      · cases hd
      · unfold State.decideClassified at hd
        split at hd
        · next hc =>
          unfold Banks.classify at hc
          rw [if_neg hb] at hc
          split at hc
          · cases hc
          · unfold Banks.classifyIn at hc
            simp only at hc
            split at hc
            · cases hc
            · split at hc <;> cases hc
        · exact absurd hd (hrefuse _ _)
        · exact absurd hd (hrefuse _ _)
        · unfold discardAnswerOf at hd; split at hd <;> cases hd
        · split at hd
          · unfold State.decideRouted at hd
            split at hd
            · split at hd <;> cases hd
            · split at hd
              · cases hd
              · split at hd <;> cases hd
          · exact absurd hd (hrefuse _ _)

theorem State.admitting_parts (h : HPort) (p : Packet) (x : Admitted) : ∃ u : State, SameFront s u ∧ SameGrant s u ∧
    s.admitting h p x = { u.removeHead h with admission := { (u.removeHead h).admission with pointer := h + 1 } } := by
  unfold State.admitting
  refine ⟨_, ?_, ?_, rfl⟩
  · split <;> exact ⟨fun _ => rfl, fun _ => rfl, rfl, rfl, rfl, rfl⟩
  · split <;> exact ⟨rfl, rfl⟩

/-- An evaluation leaves the other ports' waiting heads where they stood. -/
theorem State.evaluate_kept (h : HPort) (b : Bool) : HeadsKept (· ≠ h) s (s.evaluate h b) := by
  unfold State.evaluate
  split
  · exact .refl s
  · next p _ _ =>
    cases s.decideHead h p with
    | answer a f =>
      change HeadsKept _ s (s.answerLocally h b a f)
      unfold State.answerLocally
      split
      · have hplace : HeadsKept (· ≠ h) s (s.placeHost h .localAnswer a) :=
          ⟨⟨rfl, rfl⟩, fun k _ => .inr ⟨rfl, (s.placeHost_kept h k .localAnswer a).2⟩⟩
        exact (hplace.trans (State.removeHead_kept h)).trans (State.report_kept _)
      · exact State.setHead_kept h _
    | drop f => exact (State.removeHead_kept h).trans (State.report_kept _)
    | divert => exact State.setHead_kept h _
    | wait r => exact State.setHead_kept h _
    | admitting x =>
      obtain ⟨u, hf, hg, he⟩ := s.admitting_parts h p x
      change HeadsKept _ s (s.admitting h p x)
      rw [he]
      exact (hf.kept hg).trans ((State.removeHead_kept h).trans ⟨⟨rfl, rfl⟩, fun _ _ => .inr ⟨rfl, rfl⟩⟩)

/-- A head that an evaluation leaves waiting for the management unit was diverted. -/
theorem State.evaluate_diverted (h : HPort) (b : Bool) (hin : (s.hosts[h]).link.ingress ≠ []) : Diverted (s.evaluate h b) h := by
  unfold State.evaluate
  split
  · next he => exact absurd he hin
  · next p l hp =>
    have hwait : ∀ r, r ≠ .management → Diverted (s.setHead h (.waiting r)) h := fun r hr hw => by
      rw [show (s.setHead h (.waiting r)).admission.heads[h] = _ from s.setHead_self h _] at hw
      exact absurd (HeadCondition.waiting.inj hw) hr
    generalize hd : s.decideHead h p = d
    cases d with
    | answer a f =>
      change Diverted (s.answerLocally h b a f) h
      unfold State.answerLocally
      split
      · exact .of_not_waiting ((State.report_kept (P := fun _ => True) _).not_waiting trivial (State.removeHead_not_waiting h))
      · exact hwait _ (by simp)
    | drop f =>
      exact .of_not_waiting ((State.report_kept (P := fun _ => True) _).not_waiting trivial (State.removeHead_not_waiting h))
    | divert =>
      intro _ q rest hq
      have : p = q := (List.cons.inj (hp.symm.trans hq)).1
      rw [← this]
      exact State.decideHead_divert hd
    | wait r => exact hwait r fun e => State.decideHead_ne_wait_management h p (e ▸ hd)
    | admitting x =>
      obtain ⟨u, -, -, he⟩ := s.admitting_parts h p x
      change Diverted (s.admitting h p x) h
      rw [he]
      exact .of_not_waiting (State.removeHead_not_waiting h)

end

/-! ## The end of a pass -/

/-- The unit, FREE and owing no action, takes a head: its port is HELD (R117, R118). -/
theorem Debt.FrontFits.accept {s : State} (hs : δ.FrontFits s) {h : HPort} (hfree : s.unitFree = true)
    (hok : δ.Evaluable s h) : δ.FrontFits (s.accept h) := by
  unfold State.accept
  split
  · exact hs
  · next p l hp =>
    simp only [State.unitFree, Bool.and_eq_true, beq_iff_eq] at hfree
    obtain ⟨hunit, haction⟩ := hfree
    have hlink : ((s.popIngress (.host h)).hosts[h]).link = { (s.hosts[h]).link with ingress := (s.hosts[h]).link.ingress.tail } :=
      s.setLink_host_self h _
    have hother : ∀ k : HPort, k ≠ h → (s.popIngress (.host h)).hosts[k] = s.hosts[k] := fun k hk =>
      s.setLink_host_other h k _ hk
    refine ⟨⟨fun k => ?_, fun k => ?_⟩, haction⟩
    · by_cases e : k = h
      · subst e
        refine hok.imp_right fun ho => ?_
        change HeadFits _ k ((s.popIngress (.host k)).setHead k .held).admission.heads[k]
        rw [show ((s.popIngress (.host k)).setHead k .held).admission.heads[k] = .held from State.setHead_self _ k _]
        refine ⟨(State.hostUp_iff _ k).2 ?_, rfl⟩
        change ((s.popIngress (.host k)).hosts[k]).link.state = .up
        rw [hlink]
        exact ho.1
      · have hhead : ((s.popIngress (.host h)).setHead h .held).admission.heads[k] = s.admission.heads[k] :=
          State.setHead_other _ h k _ e
        change δ.left (.host k) ∨ HeadFits _ k ((s.popIngress (.host h)).setHead h .held).admission.heads[k]
        rw [hhead]
        refine (hs.heads k).imp_right fun hk => ?_
        have hheld : s.admission.heads[k] ≠ .held := fun hh => by
          rw [hh] at hk
          have := hk.2
          rw [hunit] at this
          exact this
        exact headFits_congr_of_not_held hheld (congrArg (fun x : HostPort => x.link.state) (hother k e))
          (congrArg (fun x : HostPort => x.link.ingress) (hother k e)) hk
    · have hq := hs.quiet k
      unfold HostQuiet at hq ⊢
      by_cases e : k = h
      · subst e
        change ((s.popIngress (.host k)).hosts[k]).link.state ≠ .up → ((s.popIngress (.host k)).hosts[k]).link.state ≠ .isolated →
          ((s.popIngress (.host k)).hosts[k]).link.ingress = []
        rw [hlink]
        exact fun h1 h2 => by rw [show (s.hosts[k]).link.ingress = [] from hq h1 h2]; rfl
      · change ((s.popIngress (.host h)).hosts[k]).link.state ≠ .up → ((s.popIngress (.host h)).hosts[k]).link.state ≠ .isolated →
          ((s.popIngress (.host h)).hosts[k]).link.ingress = []
        rw [hother k e]
        exact hq

/-- The unit takes at most one of the diverted heads, an access that may begin (R101, R118). -/
theorem State.acceptOne_evolves (l : List HPort) (hd : ∀ h ∈ l, Diverted s h) : Evolves c δ δ s (s.acceptOne l) := by
  have haccept : ∀ h ∈ l, s.unitFree = true → s.acceptable h = true → Evolves c δ δ s (s.accept h) := by
    intro h hl hfree hacc
    simp only [State.acceptable, Bool.and_eq_true, beq_iff_eq] at hacc
    refine .of_ort ((s.accept_calm (g := False) h).micros c) (s.accept_calm (g := False) h).still.ort
      (fun d hup => .inl (by rw [(s.accept_calm (g := False) h).still.targetUp]; exact hup)) (s.accept_calm h).owing
      (fun he => .inl (by rw [← (s.accept_calm (g := False) h).still.commit]; exact he))
      (fun hs => hs.accept hfree ((hs.heads h).imp_right fun hk => hk.of_evaluable (by rw [hacc.1]; rfl))) fun _ old hold => ?_
    have hgrant := (s.accept_calm (g := False) h).sameGrant
    unfold State.accept at hgrant ⊢
    split
    · exact hold
    · next p rest hp =>
      intro a ha
      cases ha
      have := hd h hl hacc.1 p rest hp
      right
      exact this
  unfold State.acceptOne
  split
  · next hfree =>
    split
    · exact .refl c s
    · next h hfind =>
      have := List.find?_some hfind
      simp only [Bool.and_eq_true] at this
      exact haccept h (by simpa using this.1) hfree this.2
  · exact .refl c s

/-- After the visits of a pass every head that waits for the management unit was diverted in it. -/
theorem State.visits_diverted (l : List HPort) (s : State) (P : HPort → Prop) (hs : ∀ h, P h → Diverted s h) :
    ∀ h, P h ∨ h ∈ l → Diverted (l.foldl State.visit s) h := by
  induction l generalizing s P with
  | nil => exact fun h hh => hs h (hh.resolve_right (by simp))
  | cons k l ih =>
    have hvisit : ∀ h, P h ∨ h = k → Diverted (s.visit k) h := by
      intro h hh
      unfold State.visit
      split
      · next he =>
        by_cases e : h = k
        · subst e
          by_cases hin : (s.hosts[h]).link.ingress = []
          · have hev : s.evaluate h false = s := by unfold State.evaluate; rw [hin]
            rw [hev]
            intro _ p rest hp
            exact absurd (hin.symm.trans hp) (by simp)
          · exact State.evaluate_diverted h false hin
        · exact (State.evaluate_kept k false).diverted e (hs h (hh.resolve_right e))
      · next he =>
        by_cases e : h = k
        · subst e
          exact .of_not_waiting fun r hr => he (by rw [hr]; rfl)
        · exact hs h (hh.resolve_right e)
    intro h hh
    refine ih (s.visit k) (fun h => P h ∨ h = k) hvisit h ?_
    rcases hh with hp | hm
    · exact .inl (.inl hp)
    · rcases List.mem_cons.1 hm with e | hm
      · exact .inl (.inr e)
      · exact .inr hm

theorem State.pass_evolves : Evolves c δ δ s s.pass :=
  (s.visits_evolves _).trans (State.acceptOne_evolves _ _ fun h hl =>
    State.visits_diverted _ s (fun _ => False) (fun _ hf => hf.elim) h (.inr hl))

theorem State.clearWake_evolves : Evolves c δ δ s s.clearWake :=
  (s.admission_calm { s.admission with passDue := false } (.inr rfl)).evolves c

theorem State.settleIn_evolves (n : Nat) : Evolves c δ δ s (State.settleIn n s) := by
  induction n generalizing s with
  | zero => exact s.clearWake_evolves
  | succ n ih =>
    unfold State.settleIn
    split
    · exact (s.clearWake_evolves.trans (State.pass_evolves _)).trans (ih _)
    · exact .refl c s

theorem State.settle_evolves : Evolves c δ δ s s.settle := s.settleIn_evolves 5

theorem State.evaluateLocal_evolves (h : HPort) (hr : s.givesRoom h .localAnswer = true)
    (he : (s.admission.heads[h]).evaluable = true) : Evolves c δ δ s (s.evaluateLocal h) := by
  have hroom := State.hostHasRoom_of_givesRoom hr
  have hevaluate := State.evaluate_evolves_of_evaluable (c := c) (δ := δ)
    (s.setHost h fun x => { x with classPtr := EgressClass.localAnswer.next }) h true (fun _ => by
      rw [State.hostHasRoom_iff] at hroom ⊢
      simpa using hroom) he
  refine (((s.setClassPtr_calm h _).evolves c).trans hevaluate).trans (State.acceptOne_evolves _ _ fun k hk => ?_)
  rw [List.mem_singleton.1 hk]
  by_cases hin : ((s.setHost h fun x => { x with classPtr := EgressClass.localAnswer.next }).hosts[h]).link.ingress = []
  · have hev : (s.setHost h fun x => { x with classPtr := EgressClass.localAnswer.next }).evaluate h true =
        s.setHost h fun x => { x with classPtr := EgressClass.localAnswer.next } := by unfold State.evaluate; rw [hin]
    rw [hev]
    intro _ p rest hp
    exact absurd (hin.symm.trans hp) (by simp)
  · exact State.evaluate_diverted h true hin

/-! ## Commands that end an access -/

/-- A command that answers a state reached by small changes, its passes then taken, is a chain of small changes. -/
theorem settled_evolves {s t u : State} (h : Evolves c δ δ s u) (ht : settled u = .next t) : Evolves c δ δ s t := by
  cases ht
  exact h.trans u.settle_evolves

theorem endWrite_evolves {s t : State} {a : Access} {x : State × WriteOutcome} (h : Evolves c δ δ s x.1)
    (hu : x.1.mgmt.unit = .accessing a) (ht : endWrite a x = .next t) : Evolves c δ δ s t :=
  settled_evolves (h.trans (State.completeAccess_evolves _ hu _)) ht

theorem State.recordReply_calm {g m : Prop} (b : Byte) (r : CommandReply) : Calms g m s (s.recordReply b r) := by
  cases r with
  | result o => exact s.setResult_calm b o
  | busy => exact .refl g m s

theorem endCommand_evolves {s t : State} {a : Access} {x : State × CommandReply} (h : Evolves c δ δ s x.1)
    (hu : x.1.mgmt.unit = .accessing a) (ht : endCommand a x = .next t) : Evolves c δ δ s t := by
  have hr := State.recordReply_calm (g := False) (m := False) x.1 a.commandCode x.2
  exact settled_evolves ((h.trans (hr.evolves c)).trans
    (State.completeAccess_evolves _ (by rw [hr.sameFront.work.1]; exact hu) _)) ht

theorem endOwnCommand_evolves {s t : State} {a : Access} {o : CommandOutcome} {x : Option SelfAction}
    (hu : s.mgmt.unit = .accessing a) (ht : endOwnCommand s a o x = .next t) : Evolves c δ δ s t :=
  settled_evolves (((s.setResult_calm _ o).evolves c).trans (State.beginSelf_evolves (s.setResult a.commandCode o) hu _ x)) ht

theorem endPortCommand_evolves {s t u : State} {a : Access} {p : Port} {ok : Bool} {x : HPort → SelfAction}
    (hu : s.mgmt.unit = .accessing a) (h : ok = true → Evolves c δ δ s u) (hacc : u.mgmt.unit = .accessing a)
    (ht : endPortCommand s a p ok u x = .next t) : Evolves c δ δ s t := by
  unfold endPortCommand at ht
  split at ht
  · split at ht
    · exact endOwnCommand_evolves hu ht
    · exact endOwnCommand_evolves hu ht
  · split at ht
    · next hok => exact endCommand_evolves (x := (u, _)) (h hok) hacc ht
    · exact endCommand_evolves (x := (s, _)) (.refl c s) hu ht

/-- An access that step `i` ends, or none. -/
theorem State.accessFor_eq_some {s : State} {i : Instr} {a : Access} (h : s.accessFor i = some a) : s.executes a i := by
  unfold State.accessFor at h
  split at h
  · next hu =>
    split at h
    · next hi => cases h; exact ⟨hu, hi⟩
    · cases h
  · cases h

/-- A setting's write changes no port unit but for its attempt limit. -/
theorem SettingWrite.link {s t : State} (h : SettingWrite s t) (p : Port) :
    t.link p = s.link p ∨ ∃ n, t.link p = { s.link p with attemptLimit := n } := by
  cases h with
  | hostLimits k n m =>
    cases p with
    | host q =>
      by_cases e : q = k
      · subst e; exact .inr ⟨n, by simp⟩
      · exact .inl (congrArg HostPort.link (State.setHost_other s k q _ e))
    | target d => exact .inl rfl
  | attemptLimit d n =>
    cases p with
    | host q => exact .inl rfl
    | target q =>
      by_cases e : q = d
      · subst e; exact .inr ⟨n, by simp⟩
      · exact .inl (congrArg TargetPort.link (State.setTarget_other s d q _ e))
  | targetConfig d =>
    cases p with
    | host q => exact .inl rfl
    | target q =>
      by_cases e : q = d
      · subst e; exact .inl (by simp)
      · exact .inl (congrArg TargetPort.link (State.setTarget_other s d q _ e))
  | grant | base | supervisor | faultClass | address | tRntCode | resendLimit | drainDeadline =>
    exact .inl (by cases p <;> rfl)

/-- A register write of a setting is a quiet change. -/
theorem SettingWrite.evolves {s t : State} (hc : c.writesSettings = true) (h : SettingWrite s t) : Evolves c δ δ s t := by
  have hlink : ∀ p, (t.link p).state = (s.link p).state ∧ (t.link p).ingress = (s.link p).ingress := fun p => by
    rcases h.link p with e | ⟨n, e⟩ <;> rw [e] <;> exact ⟨rfl, rfl⟩
  have htracker : t.tracker = s.tracker := by cases h <;> rfl
  refine .of_ort (.one (.write hc h)) (by rw [htracker]) (fun d hd => .inl ?_) (fun k => by rw [htracker]) (fun hd => .inl ?_)
    (SameFront.fits ⟨fun k => (hlink (.host k)).1, fun k => (hlink (.host k)).2, ?_, ?_⟩) fun hw => absurd (hc.symm.trans hw) (by decide)
  · rw [State.targetUp_iff] at hd ⊢
    rw [(hlink _).1]
    exact hd
  · cases h <;> exact hd
  · cases h <;> rfl
  · cases h <;> exact ⟨rfl, rfl, rfl⟩

/-- The address a write to the notification address word stores, and the channel it leaves. -/
theorem State.writeChannel_evolves (v : Word) (hc : c.writesSettings = true) : Evolves c δ δ s (s.writeChannel v).1 := by
  have haddr : (bits v 0 44).toNat % 16 = 0 → Evolves c δ δ s { s with notifier := { s.notifier with address := bits v 0 44 } } :=
    fun h => SettingWrite.evolves hc ((.address _ h))
  unfold State.writeChannel
  simp only
  split
  · split
    · exact .refl c s
    · next hal =>
      have hal : (bits v 0 44).toNat % 16 = 0 := by simpa using hal
      split
      · next hch =>
        exact ((haddr hal).trans (Calms.evolves c (Calm.one (.notifier _ (.enabled hch))))).trans
          ((State.sendNotification_calm _).evolves c)
      · exact haddr hal
  · split
    · next hal =>
      exact (haddr (by simpa using hal)).trans (Calms.evolves c (Calm.one (.notifier _ .disabled)))
    · exact Calms.evolves c (Calm.one (.notifier _ .disabled))

theorem State.writeSupervisor_evolves (v : Word) (hc : c.writesSettings = true) : Evolves c δ δ s (s.writeSupervisor v).1 := by
  unfold State.writeSupervisor
  simp only
  split
  · exact .refl c s
  · exact ((SettingWrite.evolves hc ((.supervisor (bits v 0 2).toFin))).trans
      (Calms.evolves c (Calm.one (.notifier _ .noCopy)))).trans
      ((State.sendNotification_calm _).evolves c)

theorem State.writeAcknowledge_evolves (v : Word) : Evolves c δ δ s (s.writeAcknowledge v).1 := by
  unfold State.writeAcknowledge
  split
  · exact ((Calm.one (.notifier _ .acknowledged)).trans (State.sendNotification_calm _)).evolves c
  · exact .refl c s

theorem State.writeGrant_evolves (v : Word) (hc : c.writesSettings = true) : Evolves c δ δ s (s.writeGrant v).1 := by
  unfold State.writeGrant
  split
  · exact .refl c s
  · next h => exact SettingWrite.evolves hc ((.grant _ h))

theorem State.writeStaging_evolves (r : Reg) (v : Word) (hc : c = .stagingWrite) : Evolves c δ δ s (s.writeStaging r v).1 := by
  unfold State.writeStaging
  cases r <;> simp only
  case stagingWindow n i =>
    split
    · exact .refl c s
    · split
      · exact .refl c s
      · next h => exact Micro.quiet (.staging _ (.inl hc) (not_not.1 h)) rfl rfl rfl rfl rfl .inl
  case stagingGroup n i =>
    split
    · exact .refl c s
    · next h => exact Micro.quiet (.staging _ (.inl hc) (not_not.1 h)) rfl rfl rfl rfl rfl .inl
  all_goals exact .refl c s

theorem State.writePort_evolves (r : Reg) (v : Word) (hc : c.writesSettings = true) : Evolves c δ δ s (s.writePort r v).1 := by
  unfold State.writePort
  split
  · next p =>
    unfold State.writePortLimits
    cases p with
    | host h =>
      simp only
      split
      · next hl =>
        simp only [attemptLimitOk, hostLimitOk, Bool.and_eq_true, decide_eq_true_eq] at hl
        exact SettingWrite.evolves hc ((.hostLimits h _ _ hl.1.1 hl.1.2 hl.2.1 hl.2.2))
      · exact .refl c s
    | target d =>
      simp only
      split
      · next hl =>
        simp only [attemptLimitOk, Bool.and_eq_true, decide_eq_true_eq] at hl
        exact SettingWrite.evolves hc ((.attemptLimit d _ hl.1 hl.2))
      · exact .refl c s
  · next p =>
    unfold State.writeTargetConfig
    cases p with
    | host h => exact .refl c s
    | target d =>
      simp only
      split
      · exact .refl c s
      · next t _ =>
        split
        · next hl =>
          refine SettingWrite.evolves hc ((.targetConfig d _ (bits v 8 3).toFin t (v.getLsbD 16) ?_))
          simpa [targetLimitOk, or_assoc] using hl
        · exact .refl c s
  · exact .refl c s

theorem State.writeClass_evolves (r : Reg) (v : Word) (hc : c.writesSettings = true) : Evolves c δ δ s (s.writeClass r v).1 := by
  unfold State.writeClass
  split
  · simp only
    split
    · next k hk => exact SettingWrite.evolves hc ((.faultClass _ _ hk))
    · exact .refl c s
  · exact .refl c s

theorem State.writeSetting_evolves (r : Reg) (v : Word) (hc : c.writesSettings = true) :
    Evolves c δ δ s (s.writeSetting r v).1 := by
  unfold State.writeSetting
  split
  · split
    · next h => exact SettingWrite.evolves hc ((.tRntCode _ h))
    · exact .refl c s
  · exact SettingWrite.evolves hc ((.resendLimit _ (by have := (bits v 0 3).isLt; omega)))
  · split
    · exact .refl c s
    · next h =>
      refine SettingWrite.evolves hc ((.drainDeadline _ ?_ ?_))
      · exact Nat.pos_of_ne_zero fun e => h (BitVec.eq_of_toNat_eq (by simpa using e))
      · have := (bits v 0 8).isLt; omega
  · exact .refl c s

end Sys2Proof.Machine

/-! PROOFS. What leaves the management unit at the access it executes: the register words' own rules and the port
commands. -/

namespace Sys2Proof.Machine

-- One proof at a time: side by side they take more memory than the check allows.
set_option Elab.async false

variable (s : State) {a : Access}

theorem Calms.unit {g : Prop} {s t : State} (h : Calms g False s t) : t.mgmt.unit = s.mgmt.unit := h.sameFront.work.1

/-! ## The words' own rules -/

theorem State.writeGrant_unit (v : Word) : (s.writeGrant v).1.mgmt.unit = s.mgmt.unit := by
  unfold State.writeGrant
  split <;> rfl

theorem State.writeSupervisor_unit (v : Word) : (s.writeSupervisor v).1.mgmt.unit = s.mgmt.unit := by
  unfold State.writeSupervisor
  simp only
  split
  · rfl
  · exact (State.sendNotification_calm (g := False) _).unit

theorem State.writeChannel_unit (v : Word) : (s.writeChannel v).1.mgmt.unit = s.mgmt.unit := by
  unfold State.writeChannel
  simp only
  split
  · split
    · rfl
    · split
      · exact (State.sendNotification_calm (g := False) _).unit
      · rfl
  · rfl

theorem State.writeAcknowledge_unit (v : Word) : (s.writeAcknowledge v).1.mgmt.unit = s.mgmt.unit := by
  unfold State.writeAcknowledge
  split
  · exact (State.sendNotification_calm (g := False) _).unit
  · rfl

theorem State.writeStaging_unit (r : Reg) (v : Word) : (s.writeStaging r v).1.mgmt.unit = s.mgmt.unit := by
  unfold State.writeStaging
  split
  · split
    · rfl
    · split <;> rfl
  · split <;> rfl
  · rfl

theorem State.writePort_unit (r : Reg) (v : Word) : (s.writePort r v).1.mgmt.unit = s.mgmt.unit := by
  unfold State.writePort
  split
  · unfold State.writePortLimits
    simp only
    split <;> split <;> rfl
  · unfold State.writeTargetConfig
    split
    · rfl
    · simp only
      split
      · rfl
      · split <;> rfl
  · rfl

theorem State.writeClass_unit (r : Reg) (v : Word) : (s.writeClass r v).1.mgmt.unit = s.mgmt.unit := by
  unfold State.writeClass
  split
  · simp only
    split <;> rfl
  · rfl

theorem State.writeSetting_unit (r : Reg) (v : Word) : (s.writeSetting r v).1.mgmt.unit = s.mgmt.unit := by
  unfold State.writeSetting
  split
  · split <;> rfl
  · rfl
  · split <;> rfl
  · rfl

theorem State.latchOnRead_unit (h : HPort) (r : Reg) : (s.latchOnRead h r).mgmt.unit = s.mgmt.unit := by
  unfold State.latchOnRead
  split <;> rfl

theorem State.takeCommit_unit (m : Byte) : (s.takeCommit m).1.mgmt.unit = s.mgmt.unit := by
  unfold State.takeCommit
  split
  · rfl
  · split <;> rfl

theorem State.takeReseed_unit : s.takeReseed.1.mgmt.unit = s.mgmt.unit := by
  unfold State.takeReseed
  split <;> rfl

theorem State.takeRearm_unit : s.takeRearm.1.mgmt.unit = s.mgmt.unit := by
  unfold State.takeRearm
  split
  · next h => exact ((s.restartRnt_calm (g := False) 0 (.inr h)).trans (State.presentCopy_calm _ rfl)).unit
  · rfl

/-! ## The port commands -/

variable {s}

theorem State.hostLeft_unit (h : HPort) (l : LinkState) : (s.hostLeft h l).mgmt.unit = s.mgmt.unit :=
  (State.withdrawCopy_calm (g := False) _ h).unit

theorem State.takeReport_unit (r : Report) : (s.takeReport r).mgmt.unit = s.mgmt.unit := by
  refine (s.takeReport_calm (g := False) r).unit.trans ?_
  unfold State.isolatedBy
  split
  · exact congrArg _ (s.setLink_mgmt r.port _)
  · rfl

theorem State.drainCheck_mgmt : s.drainCheck.mgmt = s.mgmt := by
  unfold State.drainCheck
  split <;> rfl

theorem State.leavesUp_accessing {p : Port} {l : LinkState} (hu : s.mgmt.unit = .accessing a) :
    (s.leavesUp p l).mgmt.unit = .accessing a := by
  cases p with
  | host h =>
    have hleft := (s.hostLeft_unit h l).trans hu
    change (s.hostLeavesUp h l).mgmt.unit = _
    rw [State.hostLeavesUp_eq]
    split
    · exact State.discardAnswer_accessing hleft
    · exact hleft
  | target d =>
    have hpurged := (s.purgedAndAnswered_front d l).work.1.trans hu
    change (s.targetLeavesUp d l).mgmt.unit = _
    rw [State.targetLeavesUp_eq, State.drainCheck_mgmt]
    split
    · exact (State.takeReport_unit _).trans hpurged
    · exact hpurged

theorem State.takeDown_accessing {p : Port} {l : LinkState} (hu : s.mgmt.unit = .accessing a) :
    (s.takeDown p l).mgmt.unit = .accessing a := by
  have hleft : (if (s.link p).state = .up then s.leavesUp p l else s).mgmt.unit = .accessing a := by
    split
    · exact State.leavesUp_accessing hu
    · exact hu
  unfold State.takeDown
  cases p with
  | host h => exact State.discardAnswer_accessing hleft
  | target d => exact hleft

theorem State.resetPort_accessing {p : Port} (hu : s.mgmt.unit = .accessing a) :
    (s.resetPort p).mgmt.unit = .accessing a := by
  have hdown := State.takeDown_accessing (p := p) (l := .down) hu
  unfold State.resetPort
  cases p <;> exact hdown

theorem State.isolatePort_accessing {p : Port} (hu : s.mgmt.unit = .accessing a) :
    (s.isolatePort p).mgmt.unit = .accessing a := by
  unfold State.isolatePort
  split
  · exact State.leavesUp_accessing hu
  · exact hu

theorem State.restore_unit (p : Port) : (s.restore p).mgmt.unit = s.mgmt.unit := by
  cases p with
  | host h => exact (State.sendNotification_calm (g := False) _).unit
  | target d => rfl

theorem State.enablePort_unit (p : Port) : (s.enablePort p).1.mgmt.unit = s.mgmt.unit := by
  unfold State.enablePort
  split
  · cases p <;> rfl
  · rfl

theorem State.retrainPort_unit (p : Port) : (s.retrainPort p).1.mgmt.unit = s.mgmt.unit := by
  unfold State.retrainPort
  split
  · cases p <;> rfl
  · rfl

theorem State.restorePort_unit (p : Port) : (s.restorePort p).1.mgmt.unit = s.mgmt.unit := by
  unfold State.restorePort
  split
  · exact State.restore_unit p
  · rfl

/-- A port command leaves the unit as the rule for the port it names does. -/
theorem State.portCommand_unit (b : Access) {f : Port → State × CommandReply} (hf : ∀ p, (f p).1.mgmt.unit = s.mgmt.unit) :
    (s.portCommand b f).1.mgmt.unit = s.mgmt.unit := by
  unfold State.portCommand
  split
  · exact hf _
  · rfl

end Sys2Proof.Machine

/-! PROOFS. The commands as chains of small changes, and the invariants read off the chains. -/

namespace Sys2Proof.Machine

-- One proof at a time: side by side they take more memory than the check allows.
set_option Elab.async false

variable {c : Instr} {δ : Debt} (s : State)

/-! ## The events of the links -/

theorem State.attemptFails_evolves (p : Port) (h : (s.link p).state = .training) : Evolves c δ δ s (s.attemptFails p) := by
  have hup : (s.link p).state ≠ .up := by rw [h]; decide
  have hiso : (s.link p).state ≠ .isolated := by rw [h]; decide
  unfold State.attemptFails
  split
  · exact s.setLink_evolves_of_not_up p _ (.attempt _ (.inr h)) hup (by simp) (.inr ⟨hiso, rfl⟩)
  · exact ((s.setLink_evolves_of_not_up p (fun u => { u with state := .failed, tTrn := none }) (.failed h) hup (by simp)
      (.inr ⟨hiso, rfl⟩)).trans ((State.wakeTarget_calm _ p).evolves c)).trans (State.report_evolves _ _)

theorem State.reach_evolves (m : Nat) : Evolves c δ δ s (s.reach m) :=
  Micro.quiet (.time _ (Nat.le_max_left _ _)) rfl rfl rfl rfl rfl .inl

theorem State.judgeSend_calm {g m : Prop} (p : Port) : Calms g m s (s.judgeSend p) := by
  cases p
  · exact s.sendNotification_calm
  · exact .refl g m s

/-- An arriving packet joins the queue, and is presented where it is the head of an UP host port (R98). -/
theorem State.enqueue_evolves (p : Port) (x : Packet) (hc : (s.link p).state.carries = true)
    (hr : (s.link p).hasIngressRoom = true) : Evolves c δ δ s (s.enqueue p x) := by
  have hcalm : Calms False True s (s.setLink p fun u => { u with ingress := u.ingress ++ [x] }) :=
    s.setLink_calm p _ (.arrive x hc (of_decide_eq_true hr)) (.inl trivial)
  cases p with
  | target d =>
    exact hcalm.evolves_of_front c (SameFront.fits ⟨fun _ => rfl, fun _ => rfl, rfl, rfl, rfl, rfl⟩) fun _ => id
  | host k =>
    have hself := s.setLink_host_self k fun u => { u with ingress := u.ingress ++ [x] }
    have hquiet : HostQuiet (s.setLink (.host k) fun u => { u with ingress := u.ingress ++ [x] }) k := fun h1 h2 => by
      rw [hself] at h1 h2
      exact absurd ((LinkState.carries_iff _).1 hc) (not_or.2 ⟨h1, h2⟩)
    have hin : ((s.setLink (.host k) fun u => { u with ingress := u.ingress ++ [x] }).hosts[k]).link.ingress ≠ [] := by
      rw [hself]; simp
    have howes := (Evolves.owes (δ := δ) (c := c) s (.host k)).trans
      (hcalm.evolves_of_front c (fun hs => hs.setHostLink k _ (.inl (Or.inr rfl)) hquiet) fun _ => id)
    unfold State.enqueue
    simp only
    split
    · next hcond =>
      refine (howes.trans (State.setHead_evolves _ k .presented (.inl (Or.inr rfl)))).trans (Evolves.settles _ k ?_)
      rw [show ((s.setLink (.host k) _).setHead k .presented).admission.heads[k] = _ from State.setHead_self _ k _]
      exact ⟨hcond.2, hin⟩
    · next hcond =>
      refine hcalm.evolves_of_front c (fun hs => hs.setHostLink k _ ((hs.heads k).imp_right fun hk => ?_) hquiet) fun _ => id
      have hup : (s.setLink (.host k) fun u => { u with ingress := u.ingress ++ [x] }).hostUp k = s.hostUp k := by
        unfold State.hostUp
        rw [hself]
      generalize hy : s.admission.heads[k] = y at hk
      cases y with
      | noHead =>
        refine .inl (Bool.eq_false_iff.2 fun hu => hcond ⟨hy, hu⟩)
      | held => exact ⟨hup.trans hk.1, hk.2⟩
      | presented => exact ⟨hup.trans hk.1, hin⟩
      | waiting r => exact ⟨hup.trans hk.1, hin⟩

theorem State.markSent_evolves (d : DPort) (x : Packet) : Evolves c δ δ s (s.markSent d x) := by
  unfold State.markSent
  split
  · refine s.setEntry_evolves _ _ ?_ (.inr ?_)
    · split
      · next h => exact .marked h.1
      · exact .same
    · split <;> exact id
  · exact .refl c s

theorem State.accepted_evolves (p : Port) (x : Packet) : Evolves c δ δ s (s.accepted p x) := by
  cases p with
  | host h => exact .refl c s
  | target d => exact (s.markSent_evolves d x).trans ((State.wake_calm _).evolves c)

/-- An ISOLATED host port's packet taken out of its queue. -/
theorem State.popIsolated_evolves (h : HPort) (hi : (s.hosts[h]).link.state = .isolated) :
    Evolves c δ δ s (s.popIngress (.host h)) := by
  have hnot : (s.hosts[h]).link.state ≠ .up := by rw [hi]; decide
  refine (s.popIngress_calm (.host h)).evolves_of_front c
    (fun hs => hs.setHostLink h _ ((hs.heads h).imp_right fun hk => ?_) fun _ h2 => absurd ?_ h2) fun _ => id
  · rw [hk.eq_noHead hnot]
    exact headFits_noHead_of_not_up (by rw [s.setLink_host_self]; exact hnot)
  · rw [s.setLink_host_self]; exact hi

theorem State.takeIsolatedHead_evolves (h : HPort) (p : Packet) (hi : (s.hosts[h]).link.state = .isolated) :
    Evolves c δ δ s (s.takeIsolatedHead h p) := by
  unfold State.takeIsolatedHead
  split
  · exact s.popIsolated_evolves h hi
  · split
    · next hr =>
      exact (((s.placeHost_calm h _ _ (State.hostHasRoom_of_givesRoom hr)).evolves c).trans
        (State.popIsolated_evolves _ h ((s.placeHost_kept h h _ _).1.trans hi))).trans
        ((State.endIsolatedWait_calm _ h).evolves c)
    · exact (s.setHost_flags_calm h (fun x => { x with isolatedWaits := true }) (fun _ => rfl) fun _ => rfl).evolves c

/-- A port trained comes up: a host port with its queue empty and no head (R20, R29). -/
theorem State.comesUp_evolves (p : Port) (ht : (s.link p).state = .training) :
    Evolves c δ δ s (s.setLink p fun u => { u with state := .up, tTrn := none }) := by
  cases p with
  | target d =>
    exact s.setTargetLink_evolves d (fun u => { u with state := .up, tTrn := none }) (.trained ht) fun _ => .inl rfl
  | host h =>
    refine s.setHostLink_evolves h (fun u => { u with state := .up, tTrn := none }) (.trained ht) fun hs => ?_
    have hstate : (s.hosts[h]).link.state = .training := ht
    have hempty := hs.quiet h (by rw [hstate]; decide) (by rw [hstate]; decide)
    refine hs.setHostLink h _ ((hs.heads h).imp_right fun hk => ?_) fun h1 _ => absurd (by rw [s.setLink_host_self]) h1
    rw [hk.eq_noHead (by rw [hstate]; decide)]
    exact .inr (by rw [s.setLink_host_self]; exact hempty)

/-! ## The tracker's events -/

theorem Entry.compare_matched {e : Entry} {d : DPort} {t : Byte} (h : e.compare d t = .matched) :
    e.inFlight = true ∧ e.sent = true ∧ e.target = d ∧ e.phase = tagPhase t := by
  unfold Entry.compare at h
  split at h
  · next hp =>
    split at h
    · next hm => simp only [Bool.and_eq_true] at hm; exact ⟨hm.1, hm.2, hp⟩
    · split at h <;> cases h
  · cases h

/-- The handling of a matched completion leaves the entry as a guarded change of it (R147 to R152). -/
theorem Entry.after_step (e : Entry) (p : Packet) (now tq : Nat) (hf : e.inFlight = true) (hs : e.sent = true) :
    EntryStep e (e.after (e.handling p) now tq) := by
  have hstatus : ∀ k, ∃ st fs, statusHandling p.status k = .finalStatus st fs := fun k => by
    unfold statusHandling
    split
    · exact ⟨_, _, rfl⟩
    · split <;> exact ⟨_, _, rfl⟩
  have hfinal : ∀ st fs, EntryStep e (e.after (.finalStatus st fs) now tq) := fun _ _ => .freed
  have hmis : EntryStep e (e.after .mismatch now tq) := .quarantined _ hf hs
  unfold Entry.handling
  split
  · next hk _ =>
    split
    · next hg =>
      simp only [Entry.goodChunk, Bool.and_eq_true, beq_iff_eq, decide_eq_true_eq] at hg
      obtain ⟨⟨⟨ho, h1⟩, hle⟩, hfin⟩ := hg
      split
      · exact .delivered _
      · next hnf =>
        refine .progress _ hf hs hk h1 ?_
        have : p.final = false := by simpa using hnf
        rw [this] at hfin
        have hne : p.offset.toNat + p.length.toNat ≠ e.length.toNat := by simpa using hfin.symm
        omega
    · exact hmis
  · obtain ⟨st, fs, h⟩ := hstatus .targetAbort
    rw [h]
    cases st <;> first | exact hmis | exact hfinal _ _
  · obtain ⟨st, fs, h⟩ := hstatus .targetAbort
    rw [h]; exact hfinal _ _
  · obtain ⟨st, fs, h⟩ := hstatus .absorbedWriteFailed
    rw [h]; exact hfinal _ _
  · exact hmis

/-- A handling that ends takes the entry out of flight (R126). -/
theorem Entry.after_inFlight {x : Handling} (e : Entry) (now tq : Nat) (h : x.ends = true) :
    (e.after x now tq).inFlight = false := by
  cases x with
  | progress n => cases h
  | finalChunk | finalStatus | mismatch => rfl

/-- The host is sent a final packet only by a handling that ends (R147). -/
theorem Entry.ends_of_final {e : Entry} {p : Packet} (h : (e.answer (e.handling p) p).final = true) :
    (e.handling p).ends = true := by
  have hstatus : ∀ k, (statusHandling p.status k).ends = true := fun k => by
    unfold statusHandling
    split
    · rfl
    · split <;> rfl
  unfold Entry.handling
  split
  · next hk hc =>
    split
    · next hg =>
      split
      · rfl
      · next hf => simp [Entry.handling, hk, hc, hg, hf, Entry.answer, forwardChunk] at h
    · rfl
  · have := hstatus .targetAbort
    split
    · rfl
    · exact this
  · exact hstatus _
  · exact hstatus _
  · rfl

theorem State.produce_owing (d : DPort) (h : HPort) (p : Packet) (k : HPort) :
    (s.produce d h p).tracker.owing k ≤ s.tracker.owing k + if h = k ∧ p.final = true then 1 else 0 := by
  refine ((State.placeTracker_calm (m := False) _ h).owing k).trans ?_
  have hset := Vector.countP_toList_set s.tracker.waiting d
    (some { host := h, packet := p, order := s.tracker.nextOrder })
    (fun w => w.any fun q : Produced => q.host == k && q.packet.final)
  simp only [Option.any_some, Bool.and_eq_true, beq_iff_eq] at hset
  simp only [Tracker.owing, Tracker.finalsWaiting]
  omega

/-- What one entry's own change does to the loads: a host's load falls by one where the entry stops counting toward it. -/
theorem State.setEntry_load (e : EntryIx) (f : Entry → Entry) (k : HPort) :
    (s.setEntry e f).tracker.load k + (if (s.tracker.ort[e]).countsForHost k then 1 else 0) =
      s.tracker.load k + if (f s.tracker.ort[e]).countsForHost k then 1 else 0 := by
  have := Vector.countP_toList_set s.tracker.ort e (f s.tracker.ort[e]) (·.countsForHost k)
  unfold Tracker.load Tracker.hostCount
  change s.tracker.owing k + _ + _ = _
  simp only [State.setEntry]
  omega

/-- An entry in flight that answers its host counts toward it. -/
theorem Entry.countsForHost_of_answers {e : Entry} (hf : e.inFlight = true) (ha : e.answers = true) :
    e.countsForHost e.host = true := by
  simp only [Entry.answers, Bool.and_eq_true] at ha
  simp [Entry.countsForHost, hf, ha.1]

/-- An answer added for an entry that leaves flight in the same event leaves every host's load as it was. -/
theorem State.load_of_left {s u t : State} {e : EntryIx} {k : HPort} (hf : (s.tracker.ort[e]).inFlight = true)
    (ha : (s.tracker.ort[e]).answers = true)
    (hu : u.tracker.load k + (if (s.tracker.ort[e]).countsForHost k then 1 else 0) = s.tracker.load k)
    (ht : t.tracker.load k ≤ u.tracker.load k + if (s.tracker.ort[e]).host = k then 1 else 0) :
    t.tracker.load k ≤ s.tracker.load k := by
  have hc := Entry.countsForHost_of_answers hf ha
  split at ht
  · next hk => rw [← hk, hc, if_pos rfl] at hu; rw [← hk]; rw [← hk] at ht; omega
  · omega

theorem Calms.load {g m : Prop} {u t : State} {k : HPort} {n : Nat} (h : Calms g m u t)
    (ho : t.tracker.owing k ≤ u.tracker.owing k + n) : t.tracker.load k ≤ u.tracker.load k + n := by
  unfold Tracker.load Tracker.hostCount
  rw [h.still.ort]
  omega

/-- A wake event or none. -/
theorem State.wakeIf_evolves (b : Bool) : Evolves c δ δ s (if b then s.wake else s) := by
  cases b
  · exact .refl c s
  · exact s.wake_calm.evolves c

theorem State.handle_evolves (d : DPort) (ix : EntryIx) (p : Packet) (hf : (s.tracker.ort[ix]).inFlight = true)
    (hs : (s.tracker.ort[ix]).sent = true) : Evolves c δ δ s (s.handle d ix p) := by
  have hstep := Entry.after_step _ p s.now (tQrt s.targets[d].timeoutCode) hf hs
  have hload := fun k => s.setEntry_load ix
    (fun y => y.after ((s.tracker.ort[ix]).handling p) s.now (tQrt s.targets[d].timeoutCode)) k
  have hentry := ((Evolves.of_le (δ := δ) (δ' := δ.checking) c s (fun _ h => h) fun _ => trivial).trans
    (s.setEntry_evolves ix (fun y => y.after ((s.tracker.ort[ix]).handling p) s.now (tQrt s.targets[d].timeoutCode))
      hstep (.inl trivial))).trans (State.wakeIf_evolves _ ((s.tracker.ort[ix]).handling p).ends)
  unfold State.handle
  simp only
  generalize hu : (if ((s.tracker.ort[ix]).handling p).ends then _ else _ : State) = u at hentry ⊢
  have hut : u.tracker = (s.setEntry ix fun y =>
      y.after ((s.tracker.ort[ix]).handling p) s.now (tQrt s.targets[d].timeoutCode)).tracker := by
    rw [← hu]; split <;> rfl
  have hsent : Evolves c δ δ.checking s (if (s.tracker.ort[ix]).answers then
      u.produce d (s.tracker.ort[ix]).host ((s.tracker.ort[ix]).answer ((s.tracker.ort[ix]).handling p) p)
      else u.popIngress (.target d)) := by
    split
    · next ha =>
      refine hentry.then_calm (u.produce_calm d _ _) fun k => ?_
      have hsent := (u.produce_calm (m := False) d _ _).load (u.produce_owing d (s.tracker.ort[ix]).host
        ((s.tracker.ort[ix]).answer ((s.tracker.ort[ix]).handling p) p) k)
      have hload := hload k
      rw [← hut] at hload
      by_cases hends : ((s.tracker.ort[ix]).handling p).ends = true
      · refine State.load_of_left hf ha (u := u) ?_ (hsent.trans (Nat.add_le_add_left ?_ _))
        · rw [hload, Entry.countsForHost, Entry.after_inFlight _ _ _ hends]
          simp
        · split
          · next h => rw [if_pos h.1]
          · exact Nat.zero_le _
      · rw [if_neg fun h => hends (Entry.ends_of_final h.2)] at hsent
        have hc : (if ((s.tracker.ort[ix]).after ((s.tracker.ort[ix]).handling p) s.now
            (tQrt s.targets[d].timeoutCode)).countsForHost k = true then 1 else 0) ≤
            if (s.tracker.ort[ix]).countsForHost k = true then 1 else 0 := by
          split
          · next h => rw [if_pos (hstep.countsForHost h)]
          · exact Nat.zero_le _
        have arith : ∀ p u a s b : Nat, u + a = s + b → b ≤ a → p ≤ u + 0 → p ≤ s := by omega
        exact arith _ _ _ _ _ hload hc hsent
    · exact hentry.trans ((u.popTarget_calm d).evolves c)
  exact (hsent.trans (State.report_evolves _ _)).trans (State.drainCheck_evolves _)

theorem State.matchCompletion_evolves (d : DPort) (p : Packet) : Evolves c δ δ s (s.matchCompletion d p) := by
  have hpop : Evolves c δ δ s (s.popIngress (.target d)) := (s.popTarget_calm d).evolves c
  unfold State.matchCompletion
  simp only
  split
  · next hm =>
    obtain ⟨hf, hs, -⟩ := Entry.compare_matched hm
    exact s.handle_evolves d _ p hf hs
  · exact hpop.trans (State.report_evolves _ _)
  · exact hpop.trans (State.report_evolves _ _)

theorem State.withdrawRequest_calm {g m : Prop} (ix : EntryIx) : Calms g m s (s.withdrawRequest ix) :=
  s.setLink_calm (.target (s.tracker.ort[ix]).target)
    (fun u => { u with egress := u.egress.filter fun p => !p.isRequestUnder (dTag ix (s.tracker.ort[ix]).phase) })
    (.depart _ List.filter_sublist) (.inr fun _ e => by cases e)

/-- An expired entry is out of flight, and its request withdrawn if it was not sent (R137, R157). -/
def State.expired (s : State) (ix : EntryIx) : State :=
  if (s.tracker.ort[ix]).sent then
    s.setEntry ix fun y => y.quarantinedUntil (s.now + tQrt s.targets[(s.tracker.ort[ix]).target].timeoutCode)
  else (s.withdrawRequest ix).setEntry ix fun y => { y with state := .free }

theorem State.expired_evolves (ix : EntryIx) (hf : (s.tracker.ort[ix]).inFlight = true) :
    Evolves c δ.checking δ.checking s (s.expired ix) := by
  unfold State.expired
  split
  · next hs => exact s.setEntry_evolves ix _ (.quarantined _ hf hs) (.inl trivial)
  · next hs =>
    exact ((s.withdrawRequest_calm ix).evolves c).trans
      (State.setEntry_evolves _ ix (fun y => { y with state := .free }) (.expired hf (by simpa using hs)) (.inl trivial))

theorem State.expired_load (ix : EntryIx) (k : HPort) : (s.expired ix).tracker.load k +
    (if (s.tracker.ort[ix]).countsForHost k then 1 else 0) = s.tracker.load k := by
  unfold State.expired
  split
  · exact (s.setEntry_load ix _ k).trans (by simp [Entry.countsForHost, Entry.inFlight, Entry.quarantinedUntil])
  · have ht : (s.withdrawRequest ix).tracker = s.tracker := rfl
    have := (s.withdrawRequest ix).setEntry_load ix (fun y => { y with state := .free }) k
    rw [ht] at this
    exact this.trans (by simp [Entry.countsForHost, Entry.inFlight])

theorem State.expire_evolves (ix : EntryIx) (hf : (s.tracker.ort[ix]).inFlight = true) :
    Evolves c δ δ s (s.expire ix) := by
  have hleft : Evolves c δ δ.checking s (s.expired ix).wake :=
    ((Evolves.of_le (δ := δ) (δ' := δ.checking) c s (fun _ h => h) fun _ => trivial).trans
      (s.expired_evolves ix hf)).trans ((State.wake_calm _).evolves c)
  have hanswered : Evolves c δ δ.checking s (if (s.tracker.ort[ix]).answers then
      (s.expired ix).wake.appendAnswer (s.tracker.ort[ix]).host (s.tracker.ort[ix]).hostTag .expired
        (s.tracker.ort[ix]).target else (s.expired ix).wake) := by
    split
    · next ha =>
      refine hleft.then_calm (State.appendAnswer_calm _ _ _ _ _) fun k => State.load_of_left hf ha (s.expired_load ix k) ?_
      exact (State.appendAnswer_calm (m := False) _ _ _ _ _).load ((s.expired ix).wake.appendAnswer_owing _ _ _ _ k)
    · exact hleft
  exact (hanswered.trans (State.report_evolves _ _)).trans (State.drainCheck_evolves _)

/-! ## The notification unit's events -/

theorem State.takeAlert_evolves (d : DPort) (p : Packet) : Evolves c δ δ s (s.takeAlert d p) := by
  unfold State.takeAlert
  split
  · exact .refl c s
  · split
    · exact Calms.evolves c (Calm.one (.notifier _ (.coalesce d p)))
    · split
      · next h => exact (s.appendItem_calm _ h rfl).evolves c
      · exact s.report_evolves _

theorem State.renotify_calm {g m : Prop} (h : s.notifier.channel = .awaitingAck) : Calms g m s s.renotify := by
  unfold State.renotify
  split
  · exact (s.restartRnt_calm _ (.inl h)).trans (State.presentCopy_calm _ rfl)
  · exact Calm.one (.notifier _ (.stalled h))

/-! ## The commit engine -/

theorem State.endValidation_evolves (m : CommitMode) (h : s.commit.engine = .validating m) :
    Evolves c δ δ s (s.endValidation m) := by
  unfold State.endValidation
  split
  · exact Micro.quiet (.endCommit _ (by rw [h]; simp)) rfl rfl rfl rfl rfl nofun
  · next hv =>
    split
    · next hd => exact Micro.quiet (.beginDrain ⟨m, h⟩ hv hd.2) rfl rfl rfl rfl rfl fun _ => .inr hd.2
    · exact (Micro.quiet (.swap (.inr ⟨⟨m, h⟩, hv⟩)) rfl rfl rfl rfl rfl nofun).trans
        ((State.wake_calm s.swapped).evolves c)

/-! ## The commands -/

/-- A state with empty ingress queues, no head and a FREE unit fits. -/
theorem Debt.FrontFits.of_reset (hin : ∀ h : HPort, (s.hosts[h]).link.ingress = [])
    (hheads : ∀ h : HPort, s.admission.heads[h] = .noHead) (hu : s.mgmt.unit = .free) : δ.FrontFits s where
  heads h := .inr (by rw [hheads h]; exact .inr (hin h))
  quiet h _ _ := hin h
  unit := by unfold UnitFits; rw [hu]; trivial

theorem coldReset_evolves (aps mgs : BitVec 2) : Evolves (.coldReset aps mgs) δ δ s
    { State.resetWith aps mgs with now := s.now, pending := s.pending } where
  micros := .one (.cold aps mgs rfl)
  aimed _ e he := absurd (show (Tracker.reset.ort[e]).state = .free by simp [Tracker.reset]) he
  works _ hd := absurd (show EngineState.idle = .draining from hd) (by decide)
  load _ k := by
    have h : Tracker.reset.load k = 0 := by
      simp [Tracker.load, Tracker.owing, Tracker.finalsWaiting, Tracker.hostCount, Tracker.reset, Entry.countsForHost,
        Entry.inFlight]
    exact h.le.trans (Nat.zero_le _)
  front _ := .of_reset _ (fun h => by simp [State.resetWith, HostPort.reset, PortUnit.reset]) (fun h => by simp [State.resetWith, Admission.reset]) rfl
  access hc := absurd (show true = false from hc) (by decide)

theorem State.warm_ort (e : EntryIx) : (s.warm.tracker.ort[e]) = (s.tracker.ort[e]).freed := by
  have hw : s.warmCommit.tracker = s.tracker := by unfold State.warmCommit; split <;> rfl
  simp [State.warm, Tracker.warm, hw]

theorem State.warmCommit_engine : s.warmCommit.commit.engine = .idle := by
  unfold State.warmCommit
  split
  · next h => exact h
  · rfl

theorem warm_evolves (hc : c = .warmReset) : Evolves c δ δ s s.warm where
  micros := .one (.warm hc)
  aimed _ e he := absurd (by rw [State.warm_ort]; rfl) he
  works _ hd := absurd (s.warmCommit_engine.symm.trans hd) (by decide)
  load _ k := by
    have hcount : s.warm.tracker.hostCount k = 0 := by
      unfold Tracker.hostCount
      rw [Vector.countP_toList_eq, List.countP_eq_zero]
      intro e _
      rw [State.warm_ort]
      simp [Entry.countsForHost, Entry.inFlight, Entry.freed]
    have howing : s.warm.tracker.owing k = 0 := by
      simp [State.warm, Tracker.warm, Tracker.reset, Tracker.owing, Tracker.finalsWaiting]
    unfold Tracker.load
    omega
  front _ := .of_reset _ (fun h => by simp [State.warm, PortUnit.warm, PortUnit.closed, PortUnit.emptied])
    (fun h => by simp [State.warm, Admission.reset]) rfl
  access _ _ _ a ha := by cases ha

section
variable {t : State}

/-- A command whose condition does not hold changes nothing. -/
theorem Evolves.of_stay {s t : State} (h : (Host.Outcome.next s : Result) = .next t) : Evolves c δ δ s t := by
  cases h
  exact .refl c _

theorem exec_coldReset_evolves (aps : BitVec 2) (mgs : BitVec 2) (ht : exec (.coldReset aps mgs) s = .next t) : Evolves (.coldReset aps mgs) δ δ s t := by
  cases ht
  exact coldReset_evolves s aps mgs

theorem exec_partnerDetected_evolves (p : Port) (ht : exec (.partnerDetected p) s = .next t) : Evolves (.partnerDetected p) δ δ s t := by
  simp only [exec, execPartnerDetected] at ht
  split at ht
  · next h =>
    exact settled_evolves ((s.setLink_evolves_of_not_up p _ (.attempt _ (.inl h)) (by rw [h]; decide) (by simp)
      (.inr ⟨by rw [h]; decide, rfl⟩)).trans
      ((State.wakeTarget_calm _ p).evolves _)) ht
  · exact .of_stay ht

theorem exec_trainingSucceeds_evolves (p : Port) (ht : exec (.trainingSucceeds p) s = .next t) : Evolves (.trainingSucceeds p) δ δ s t := by
  simp only [exec, execTrainingSucceeds] at ht
  split at ht
  · next h =>
    exact settled_evolves ((s.comesUp_evolves p h).trans (((State.wakeTarget_calm _ p).trans (State.judgeSend_calm _ p)).evolves _)) ht
  · exact .of_stay ht

theorem exec_trainingFails_evolves (p : Port) (ht : exec (.trainingFails p) s = .next t) : Evolves (.trainingFails p) δ δ s t := by
  simp only [exec, execTrainingFails] at ht
  split at ht
  · next h => exact settled_evolves (s.attemptFails_evolves p h) ht
  · exact .of_stay ht

theorem exec_tTrnExpiry_evolves (p : Port) (ht : exec (.tTrnExpiry p) s = .next t) : Evolves (.tTrnExpiry p) δ δ s t := by
  simp only [exec, execTTrnExpiry] at ht
  split at ht
  · next m h _ => exact settled_evolves ((s.reach_evolves m).trans (State.attemptFails_evolves _ p (by cases p <;> exact h))) ht
  · exact .of_stay ht

theorem exec_linkLoss_evolves (p : Port) (ht : exec (.linkLoss p) s = .next t) : Evolves (.linkLoss p) δ δ s t := by
  have hdown := s.takeDown_evolves (c := .linkLoss p) (δ := δ) p .down ⟨by decide, by decide⟩
  simp only [exec, execLinkLoss] at ht
  split at ht
  · exact settled_evolves (hdown.trans (State.report_evolves _ _)) ht
  · exact settled_evolves hdown ht
  · next h => exact settled_evolves (s.attemptFails_evolves p h) ht
  · exact .of_stay ht

theorem exec_linkPacketArrival_evolves (p : Port) (bs : List Byte) (ht : exec (.linkPacketArrival p bs) s = .next t) : Evolves (.linkPacketArrival p bs) δ δ s t := by
  simp only [exec, execLinkPacketArrival] at ht
  split at ht
  · next h =>
    simp only [Bool.and_eq_true] at h
    split at ht
    · exact settled_evolves (s.enqueue_evolves p _ h.1 h.2) ht
    · exact settled_evolves (s.report_evolves _) ht
  · exact .of_stay ht

theorem exec_partnerAcceptsPacket_evolves (p : Port) (ht : exec (.partnerAcceptsPacket p) s = .next t) : Evolves (.partnerAcceptsPacket p) δ δ s t := by
  simp only [exec, execPartnerAcceptsPacket] at ht
  split at ht
  · next x rest _ he =>
    have hdep : Calms False False s (s.setLink p fun u => { u with egress := rest }) :=
      s.setLink_calm p _ (.depart rest (by rw [he]; exact List.sublist_cons_self _ _)) (.inr fun _ _ => rfl)
    exact settled_evolves ((hdep.evolves _).trans (State.accepted_evolves _ p x)) ht
  · exact .of_stay ht

theorem exec_headPresented_evolves (h : HPort) (ht : exec (.headPresented h) s = .next t) : Evolves (.headPresented h) δ δ s t := by
  simp only [exec, execHeadPresented] at ht
  split at ht
  · exact settled_evolves ((s.wake_calm).evolves _) ht
  · exact .of_stay ht

theorem exec_localAnswerPlaced_evolves (h : HPort) (ht : exec (.localAnswerPlaced h) s = .next t) : Evolves (.localAnswerPlaced h) δ δ s t := by
  simp only [exec, execLocalAnswerPlaced] at ht
  split at ht
  · next hr => exact settled_evolves (s.evaluateLocal_evolves h hr.2 (by rw [hr.1]; rfl)) ht
  · exact .of_stay ht

theorem exec_mgmtAnswerEnters_evolves (h : HPort) (ht : exec (.mgmtAnswerEnters h) s = .next t) : Evolves (.mgmtAnswerEnters h) δ δ s t := by
  exact settled_evolves (s.enterAnswer_evolves h) ht

theorem exec_isolatedHostHead_evolves (h : HPort) (ht : exec (.isolatedHostHead h) s = .next t) : Evolves (.isolatedHostHead h) δ δ s t := by
  simp only [exec, execIsolatedHostHead] at ht
  split at ht
  · next hi _ => exact settled_evolves (s.takeIsolatedHead_evolves h _ hi) ht
  · exact .of_stay ht

theorem exec_isolatedTargetHead_evolves (d : DPort) (ht : exec (.isolatedTargetHead d) s = .next t) : Evolves (.isolatedTargetHead d) δ δ s t := by
  simp only [exec, execIsolatedTargetHead] at ht
  split at ht
  · exact settled_evolves ((s.popTarget_calm d).evolves _) ht
  · exact .of_stay ht

theorem exec_completionMatch_evolves (d : DPort) (ht : exec (.completionMatch d) s = .next t) : Evolves (.completionMatch d) δ δ s t := by
  simp only [exec, execCompletionMatch] at ht
  split at ht
  · exact settled_evolves (s.matchCompletion_evolves d _) ht
  · exact .of_stay ht

theorem exec_trackerPacketPlaced_evolves (h : HPort) (ht : exec (.trackerPacketPlaced h) s = .next t) : Evolves (.trackerPacketPlaced h) δ δ s t := by
  exact settled_evolves ((s.placeTracker_calm h).evolves _) ht

theorem exec_expiry_evolves (e : EntryIx) (ht : exec (.expiry e) s = .next t) : Evolves (.expiry e) δ δ s t := by
  simp only [exec, execExpiry] at ht
  split at ht
  · next m hf _ => exact settled_evolves ((s.reach_evolves m).trans (State.expire_evolves _ e hf)) ht
  · exact .of_stay ht

theorem exec_quarantineEnd_evolves (e : EntryIx) (ht : exec (.quarantineEnd e) s = .next t) :
    Evolves (.quarantineEnd e) δ δ s t := by
  simp only [exec, execQuarantineEnd] at ht
  split at ht
  · next m hq _ =>
    have hout : ((s.reach m).tracker.ort[e]).inFlight ≠ true := by
      rw [State.reach_tracker, Entry.inFlight, hq]
      decide
    exact settled_evolves (((s.reach_evolves m).trans (State.setEntry_evolves _ e _ .freed (.inr fun hf => absurd hf hout))).trans
      ((State.wake_calm _).evolves _)) ht
  · exact .of_stay ht

theorem exec_alertIntake_evolves (d : DPort) (ht : exec (.alertIntake d) s = .next t) : Evolves (.alertIntake d) δ δ s t := by
  simp only [exec, execAlertIntake] at ht
  split at ht
  · split at ht
    · have halert := ((s.popTarget_calm d).evolves (δ := δ) (.alertIntake d)).trans
        (State.takeAlert_evolves _ d ‹_›)
      refine settled_evolves ?_ ht
      split
      · exact halert.trans (State.requestIsolation_evolves _ _)
      · exact halert
    · exact .of_stay ht
  · exact .of_stay ht

theorem exec_notificationSend_evolves (ht : exec .notificationSend s = .next t) : Evolves .notificationSend δ δ s t := by
  exact settled_evolves ((s.sendNotification_calm).evolves _) ht

theorem exec_tRntExpiry_evolves (ht : exec .tRntExpiry s = .next t) : Evolves .tRntExpiry δ δ s t := by
  simp only [exec, execTRntExpiry] at ht
  split at ht
  · next m h _ =>
    exact settled_evolves ((s.reach_evolves m).trans ((State.renotify_calm (s.reach m) h).evolves _)) ht
  · exact .of_stay ht

theorem exec_notificationCopyPlaced_evolves (ht : exec .notificationCopyPlaced s = .next t) : Evolves .notificationCopyPlaced δ δ s t := by
  exact settled_evolves ((s.placeCopy_calm).evolves _) ht

theorem exec_acknowledge_evolves (ht : exec .acknowledge s = .next t) : Evolves .acknowledge δ δ s t := by
  simp only [exec, execAcknowledge] at ht
  split at ht
  · next ha =>
    exact endWrite_evolves (s.writeAcknowledge_evolves _) ((s.writeAcknowledge_unit _).trans (State.accessFor_eq_some ha).1) ht
  · exact .of_stay ht

theorem exec_channelEnableWrite_evolves (ht : exec .channelEnableWrite s = .next t) : Evolves .channelEnableWrite δ δ s t := by
  simp only [exec, execChannelEnableWrite] at ht
  split at ht
  · next ha =>
    exact endWrite_evolves (s.writeChannel_evolves _ rfl) ((s.writeChannel_unit _).trans (State.accessFor_eq_some ha).1) ht
  · exact .of_stay ht

theorem exec_supervisorPortWrite_evolves (ht : exec .supervisorPortWrite s = .next t) : Evolves .supervisorPortWrite δ δ s t := by
  simp only [exec, execSupervisorPortWrite] at ht
  split at ht
  · next ha =>
    exact endWrite_evolves (s.writeSupervisor_evolves _ rfl) ((s.writeSupervisor_unit _).trans (State.accessFor_eq_some ha).1) ht
  · exact .of_stay ht

theorem exec_apertureBaseWrite_evolves (ht : exec .apertureBaseWrite s = .next t) : Evolves .apertureBaseWrite δ δ s t := by
  simp only [exec, execApertureBaseWrite] at ht
  split at ht
  · next ha => exact endWrite_evolves (SettingWrite.evolves rfl (.base _)) (State.accessFor_eq_some ha).1 ht
  · exact .of_stay ht

theorem exec_grantSetWrite_evolves (ht : exec .grantSetWrite s = .next t) : Evolves .grantSetWrite δ δ s t := by
  simp only [exec, execGrantSetWrite] at ht
  split at ht
  · next ha =>
    exact endWrite_evolves (s.writeGrant_evolves _ rfl) ((s.writeGrant_unit _).trans (State.accessFor_eq_some ha).1) ht
  · exact .of_stay ht

theorem exec_stagingWrite_evolves (ht : exec .stagingWrite s = .next t) : Evolves .stagingWrite δ δ s t := by
  simp only [exec, execStagingWrite] at ht
  split at ht
  · next ha =>
    exact endWrite_evolves (s.writeStaging_evolves _ _ rfl) ((s.writeStaging_unit _ _).trans (State.accessFor_eq_some ha).1) ht
  · exact .of_stay ht

theorem exec_portConfigWrite_evolves (ht : exec .portConfigWrite s = .next t) : Evolves .portConfigWrite δ δ s t := by
  simp only [exec, execPortConfigWrite] at ht
  split at ht
  · next ha =>
    exact endWrite_evolves (s.writePort_evolves _ _ rfl) ((s.writePort_unit _ _).trans (State.accessFor_eq_some ha).1) ht
  · exact .of_stay ht

theorem exec_faultClassWrite_evolves (ht : exec .faultClassWrite s = .next t) : Evolves .faultClassWrite δ δ s t := by
  simp only [exec, execFaultClassWrite] at ht
  split at ht
  · next ha =>
    exact endWrite_evolves (s.writeClass_evolves _ _ rfl) ((s.writeClass_unit _ _).trans (State.accessFor_eq_some ha).1) ht
  · exact .of_stay ht

theorem exec_settingWrite_evolves (ht : exec .settingWrite s = .next t) : Evolves .settingWrite δ δ s t := by
  simp only [exec, execSettingWrite] at ht
  split at ht
  · next ha =>
    exact endWrite_evolves (s.writeSetting_evolves _ _ rfl) ((s.writeSetting_unit _ _).trans (State.accessFor_eq_some ha).1) ht
  · exact .of_stay ht

theorem exec_latchedRead_evolves (ht : exec .latchedRead s = .next t) : Evolves .latchedRead δ δ s t := by
  simp only [exec, execLatchedRead] at ht
  split at ht
  · next a ha =>
    refine settled_evolves (Evolves.trans (Calms.evolves _ ?_)
      (State.completeAccess_evolves _ ((s.latchOnRead_unit _ _).trans (State.accessFor_eq_some ha).1) _)) ht
    unfold State.latchOnRead
    split
    · exact s.mgmt_calm _ ⟨rfl, rfl, rfl, rfl⟩ (.inr ⟨rfl, rfl, rfl⟩)
    · exact .refl _ _ s
  · exact .of_stay ht

theorem exec_commit_evolves (ht : exec .commit s = .next t) : Evolves .commit δ δ s t := by
  simp only [exec, execCommit] at ht
  split at ht
  · next a ha =>
    refine endCommand_evolves ?_ ((s.takeCommit_unit _).trans (State.accessFor_eq_some ha).1) ht
    unfold State.takeCommit
    split
    · exact .refl _ s
    · next he =>
      split
      · exact Micro.quiet (.takeCommit _ rfl (not_not.1 he)) rfl rfl rfl rfl rfl nofun
      · exact .refl _ s
  · exact .of_stay ht

theorem exec_reseedStaging_evolves (ht : exec .reseedStaging s = .next t) : Evolves .reseedStaging δ δ s t := by
  simp only [exec, execReseedStaging] at ht
  split at ht
  · next ha =>
    refine endCommand_evolves ?_ (s.takeReseed_unit.trans (State.accessFor_eq_some ha).1) ht
    unfold State.takeReseed
    split
    · exact .refl _ s
    · next he => exact Micro.quiet (.staging _ (.inr rfl) (not_not.1 he)) rfl rfl rfl rfl rfl .inl
  · exact .of_stay ht

theorem exec_validationComplete_evolves (ht : exec .validationComplete s = .next t) : Evolves .validationComplete δ δ s t := by
  simp only [exec, execValidationComplete] at ht
  split at ht
  · next m h => exact settled_evolves (s.endValidation_evolves m h) ht
  · exact .of_stay ht

theorem exec_drainComplete_evolves (ht : exec .drainComplete s = .next t) : Evolves .drainComplete δ δ s t :=
  settled_evolves ((Evolves.of_le (δ := δ) (δ' := δ.checking) _ s (fun _ h => h) fun _ => trivial).trans s.drainCheck_evolves) ht

theorem exec_tDrnExpiry_evolves (ht : exec .tDrnExpiry s = .next t) : Evolves .tDrnExpiry δ δ s t := by
  simp only [exec, execTDrnExpiry] at ht
  split at ht
  · next m h _ =>
    refine settled_evolves (((s.reach_evolves m).trans (Micro.quiet (.endCommit _ ?_) rfl rfl rfl rfl rfl nofun)).trans
      ((State.wake_calm _).evolves _)) ht
    rw [State.reach_commit, h]; simp
  · exact .of_stay ht

theorem exec_portEnable_evolves (ht : exec .portEnable s = .next t) : Evolves .portEnable δ δ s t := by
  simp only [exec, execPortEnable] at ht
  split at ht
  · next ha =>
    refine endCommand_evolves ?_ ((State.portCommand_unit _ State.enablePort_unit).trans (State.accessFor_eq_some ha).1) ht
    unfold State.portCommand
    split
    · next p _ =>
      unfold State.enablePort
      split
      · next h =>
        exact (s.setLink_evolves_of_not_up p _ (.returned (.inl h)) (by rw [h]; decide) (by simp)
          (.inr ⟨by rw [h]; decide, rfl⟩)).trans ((State.wakeTarget_calm _ p).evolves _)
      · exact .refl _ s
    · exact .refl _ s
  · exact .of_stay ht

theorem exec_portRetrain_evolves (ht : exec .portRetrain s = .next t) : Evolves .portRetrain δ δ s t := by
  simp only [exec, execPortRetrain] at ht
  split at ht
  · next ha =>
    refine endCommand_evolves ?_ ((State.portCommand_unit _ State.retrainPort_unit).trans (State.accessFor_eq_some ha).1) ht
    unfold State.portCommand
    split
    · next p _ =>
      unfold State.retrainPort
      split
      · next h =>
        exact (s.setLink_evolves_of_not_up p _ (.returned (.inr h)) (by rw [h]; decide) (by simp)
          (.inr ⟨by rw [h]; decide, rfl⟩)).trans ((State.wakeTarget_calm _ p).evolves _)
      · exact .refl _ s
    · exact .refl _ s
  · exact .of_stay ht

theorem exec_portReset_evolves (ht : exec .portReset s = .next t) : Evolves .portReset δ δ s t := by
  simp only [exec, execPortReset] at ht
  split at ht
  · next ha =>
    have hu := (State.accessFor_eq_some ha).1
    split at ht
    · exact endPortCommand_evolves hu (fun _ => s.resetPort_evolves _) (State.resetPort_accessing hu) ht
    · exact endCommand_evolves (x := (s, _)) (.refl _ s) hu ht
  · exact .of_stay ht

theorem exec_portDisable_evolves (ht : exec .portDisable s = .next t) : Evolves .portDisable δ δ s t := by
  simp only [exec, execPortDisable] at ht
  split at ht
  · next ha =>
    have hu := (State.accessFor_eq_some ha).1
    split at ht
    · exact endPortCommand_evolves hu (fun _ => s.takeDown_evolves _ _ ⟨by decide, by decide⟩) (State.takeDown_accessing hu) ht
    · exact endCommand_evolves (x := (s, _)) (.refl _ s) hu ht
  · exact .of_stay ht

theorem exec_portIsolate_evolves (ht : exec .portIsolate s = .next t) : Evolves .portIsolate δ δ s t := by
  simp only [exec, execPortIsolate] at ht
  split at ht
  · next ha =>
    have hu := (State.accessFor_eq_some ha).1
    split at ht
    · exact endPortCommand_evolves hu (fun _ => s.isolatePort_evolves _) (State.isolatePort_accessing hu) ht
    · exact endCommand_evolves (x := (s, _)) (.refl _ s) hu ht
  · exact .of_stay ht

theorem exec_portRestore_evolves (ht : exec .portRestore s = .next t) : Evolves .portRestore δ δ s t := by
  simp only [exec, execPortRestore] at ht
  split at ht
  · next ha =>
    have hu := (State.accessFor_eq_some ha).1
    split at ht
    · exact endOwnCommand_evolves hu ht
    · refine endCommand_evolves ?_ ((State.portCommand_unit _ State.restorePort_unit).trans hu) ht
      unfold State.portCommand
      split
      · unfold State.restorePort
        split
        · next h => exact s.restore_evolves _ h
        · exact .refl _ s
      · exact .refl _ s
  · exact .of_stay ht

theorem exec_faultPop_evolves (ht : exec .faultPop s = .next t) : Evolves .faultPop δ δ s t := by
  simp only [exec, execFaultPop] at ht
  split at ht
  · next ha =>
    exact endCommand_evolves (x := (_, _)) (Micro.quiet (.pop rfl) rfl rfl rfl rfl rfl .inl) (State.accessFor_eq_some ha).1 ht
  · exact .of_stay ht

theorem exec_snapshotRelease_evolves (ht : exec .snapshotRelease s = .next t) : Evolves .snapshotRelease δ δ s t := by
  simp only [exec, execSnapshotRelease] at ht
  split at ht
  · next ha =>
    exact endCommand_evolves (x := (_, _)) (Micro.quiet (.release rfl) rfl rfl rfl rfl rfl .inl) (State.accessFor_eq_some ha).1 ht
  · exact .of_stay ht

theorem exec_channelRearm_evolves (ht : exec .channelRearm s = .next t) : Evolves .channelRearm δ δ s t := by
  simp only [exec, execChannelRearm] at ht
  split at ht
  · next ha =>
    refine endCommand_evolves ?_ (s.takeRearm_unit.trans (State.accessFor_eq_some ha).1) ht
    unfold State.takeRearm
    split
    · next h => exact ((s.restartRnt_calm 0 (.inr h)).trans (State.presentCopy_calm _ rfl)).evolves _
    · exact .refl _ s
  · exact .of_stay ht

theorem exec_bridgeReset_evolves (ht : exec .bridgeReset s = .next t) : Evolves .bridgeReset δ δ s t := by
  simp only [exec, execBridgeReset] at ht
  split at ht
  · next ha => exact settled_evolves (s.beginSelf_evolves (State.accessFor_eq_some ha).1 _ _) ht
  · exact .of_stay ht

theorem exec_unknownCommand_evolves (ht : exec .unknownCommand s = .next t) : Evolves .unknownCommand δ δ s t := by
  simp only [exec, execUnknownCommand] at ht
  split at ht
  · next ha => exact endCommand_evolves (x := (s, _)) (.refl _ s) (State.accessFor_eq_some ha).1 ht
  · exact .of_stay ht

theorem exec_selfPortCommandAction_evolves (ht : exec .selfPortCommandAction s = .next t) : Evolves .selfPortCommandAction δ δ s t := by
  simp only [exec, execSelfPortCommandAction] at ht
  split at ht
  · exact .of_stay ht
  · exact settled_evolves ((s.clearAction_evolves.trans (State.act_evolves _ _)).trans
      ((State.wake_calm _).evolves _)) ht
  · exact .of_stay ht

theorem exec_warmReset_evolves (ht : exec .warmReset s = .next t) : Evolves .warmReset δ δ s t := by
  simp only [exec, execWarmReset] at ht
  split at ht
  · cases ht; exact warm_evolves s rfl
  · exact .of_stay ht

theorem exec_malformedApertureAccess_evolves (ht : exec .malformedApertureAccess s = .next t) : Evolves .malformedApertureAccess δ δ s t := by
  simp only [exec, execMalformedApertureAccess] at ht
  split at ht
  · next ha =>
    exact settled_evolves ((s.completeAccess_evolves (State.accessFor_eq_some ha).1 _).trans (State.report_evolves _ _)) ht
  · exact .of_stay ht

/-- Every command is a chain of small changes that this command may make, and settles what it owes. -/
theorem exec_evolves {c : Instr} {s t : State} (ht : exec c s = .next t) : Evolves c δ δ s t := by
  cases c with
  | coldReset aps mgs => exact exec_coldReset_evolves s aps mgs ht
  | partnerDetected p => exact exec_partnerDetected_evolves s p ht
  | trainingSucceeds p => exact exec_trainingSucceeds_evolves s p ht
  | trainingFails p => exact exec_trainingFails_evolves s p ht
  | tTrnExpiry p => exact exec_tTrnExpiry_evolves s p ht
  | linkLoss p => exact exec_linkLoss_evolves s p ht
  | linkPacketArrival p bs => exact exec_linkPacketArrival_evolves s p bs ht
  | partnerAcceptsPacket p => exact exec_partnerAcceptsPacket_evolves s p ht
  | headPresented h => exact exec_headPresented_evolves s h ht
  | localAnswerPlaced h => exact exec_localAnswerPlaced_evolves s h ht
  | mgmtAnswerEnters h => exact exec_mgmtAnswerEnters_evolves s h ht
  | isolatedHostHead h => exact exec_isolatedHostHead_evolves s h ht
  | isolatedTargetHead d => exact exec_isolatedTargetHead_evolves s d ht
  | completionMatch d => exact exec_completionMatch_evolves s d ht
  | trackerPacketPlaced h => exact exec_trackerPacketPlaced_evolves s h ht
  | expiry e => exact exec_expiry_evolves s e ht
  | quarantineEnd e => exact exec_quarantineEnd_evolves s e ht
  | alertIntake d => exact exec_alertIntake_evolves s d ht
  | notificationSend => exact exec_notificationSend_evolves s ht
  | tRntExpiry => exact exec_tRntExpiry_evolves s ht
  | notificationCopyPlaced => exact exec_notificationCopyPlaced_evolves s ht
  | acknowledge => exact exec_acknowledge_evolves s ht
  | channelEnableWrite => exact exec_channelEnableWrite_evolves s ht
  | supervisorPortWrite => exact exec_supervisorPortWrite_evolves s ht
  | apertureBaseWrite => exact exec_apertureBaseWrite_evolves s ht
  | grantSetWrite => exact exec_grantSetWrite_evolves s ht
  | stagingWrite => exact exec_stagingWrite_evolves s ht
  | portConfigWrite => exact exec_portConfigWrite_evolves s ht
  | faultClassWrite => exact exec_faultClassWrite_evolves s ht
  | settingWrite => exact exec_settingWrite_evolves s ht
  | latchedRead => exact exec_latchedRead_evolves s ht
  | commit => exact exec_commit_evolves s ht
  | reseedStaging => exact exec_reseedStaging_evolves s ht
  | validationComplete => exact exec_validationComplete_evolves s ht
  | drainComplete => exact exec_drainComplete_evolves s ht
  | tDrnExpiry => exact exec_tDrnExpiry_evolves s ht
  | portEnable => exact exec_portEnable_evolves s ht
  | portRetrain => exact exec_portRetrain_evolves s ht
  | portReset => exact exec_portReset_evolves s ht
  | portDisable => exact exec_portDisable_evolves s ht
  | portIsolate => exact exec_portIsolate_evolves s ht
  | portRestore => exact exec_portRestore_evolves s ht
  | faultPop => exact exec_faultPop_evolves s ht
  | snapshotRelease => exact exec_snapshotRelease_evolves s ht
  | channelRearm => exact exec_channelRearm_evolves s ht
  | bridgeReset => exact exec_bridgeReset_evolves s ht
  | unknownCommand => exact exec_unknownCommand_evolves s ht
  | selfPortCommandAction => exact exec_selfPortCommandAction_evolves s ht
  | warmReset => exact exec_warmReset_evolves s ht
  | malformedApertureAccess => exact exec_malformedApertureAccess_evolves s ht

end

end Sys2Proof.Machine

/-! PROOFS. What every step keeps, read off the small changes: totality and the queue of commands, the settings, the banks
and the commit engine. -/

namespace Sys2Proof.Machine

-- One proof at a time: side by side they take more memory than the check allows.
set_option Elab.async false

/-! ## From small changes to steps -/

/-- A step runs a command as a chain of small changes on the state with the rest of the queue, or passes a microsecond. -/
theorem step_evolves {s t : State} (h : step s = .next t) :
    (∃ c rest, s.pending = c :: rest ∧ Evolves c .zero .zero { s with pending := rest } t) ∨ t = { s with now := s.now + 1 } := by
  unfold step at h
  split at h
  · cases h; exact .inr rfl
  · next c rest hp => exact .inl ⟨c, rest, hp, exec_evolves h⟩

/-- What holds whatever the queue and the moment, and what every small change keeps, every step keeps. -/
theorem step_keeps {I : State → Prop} (hqueue : ∀ s l, I s → I { s with pending := l })
    (hnow : ∀ s n, I s → I { s with now := n }) (hm : ∀ c s t, Micro c s t → I s → I t) {s t : State}
    (hs : I s) (h : step s = .next t) : I t := by
  rcases step_evolves h with ⟨c, rest, -, he⟩ | rfl
  · exact he.micros.keeps (hm c) (hqueue s rest hs)
  · exact hnow s _ hs

/-! ## Totality (log entry 2) -/

theorem endPortCommand_answers (s : State) (a : Access) (p : Port) (ok : Bool) (u : State) (x : HPort → SelfAction) :
    ∃ t, endPortCommand s a p ok u x = .next t := by
  unfold endPortCommand
  split <;> split <;> exact ⟨_, rfl⟩

/-- Every command answers a next state (log entry 2). -/
theorem exec_answers (c : Instr) (s : State) : ∃ t, exec c s = .next t := by
  cases c with
  | coldReset aps mgs => exact ⟨_, rfl⟩
  | mgmtAnswerEnters h => exact ⟨_, rfl⟩
  | trackerPacketPlaced h => exact ⟨_, rfl⟩
  | notificationSend => exact ⟨_, rfl⟩
  | notificationCopyPlaced => exact ⟨_, rfl⟩
  | drainComplete => exact ⟨_, rfl⟩
  | partnerDetected p => simp only [exec, execPartnerDetected]; split <;> exact ⟨_, rfl⟩
  | trainingSucceeds p => simp only [exec, execTrainingSucceeds]; split <;> exact ⟨_, rfl⟩
  | trainingFails p => simp only [exec, execTrainingFails]; split <;> exact ⟨_, rfl⟩
  | tTrnExpiry p => simp only [exec, execTTrnExpiry]; split <;> exact ⟨_, rfl⟩
  | linkLoss p => simp only [exec, execLinkLoss]; split <;> exact ⟨_, rfl⟩
  | linkPacketArrival p bs =>
    simp only [exec, execLinkPacketArrival]
    split
    · split <;> exact ⟨_, rfl⟩
    · exact ⟨_, rfl⟩
  | partnerAcceptsPacket p => simp only [exec, execPartnerAcceptsPacket]; split <;> exact ⟨_, rfl⟩
  | headPresented h => simp only [exec, execHeadPresented]; split <;> exact ⟨_, rfl⟩
  | localAnswerPlaced h => simp only [exec, execLocalAnswerPlaced]; split <;> exact ⟨_, rfl⟩
  | isolatedHostHead h => simp only [exec, execIsolatedHostHead]; split <;> exact ⟨_, rfl⟩
  | isolatedTargetHead d => simp only [exec, execIsolatedTargetHead]; split <;> exact ⟨_, rfl⟩
  | completionMatch d => simp only [exec, execCompletionMatch]; split <;> exact ⟨_, rfl⟩
  | expiry e => simp only [exec, execExpiry]; split <;> exact ⟨_, rfl⟩
  | quarantineEnd e => simp only [exec, execQuarantineEnd]; split <;> exact ⟨_, rfl⟩
  | alertIntake d =>
    simp only [exec, execAlertIntake]
    split
    · split <;> exact ⟨_, rfl⟩
    · exact ⟨_, rfl⟩
  | tRntExpiry => simp only [exec, execTRntExpiry]; split <;> exact ⟨_, rfl⟩
  | acknowledge => simp only [exec, execAcknowledge]; split <;> exact ⟨_, rfl⟩
  | channelEnableWrite => simp only [exec, execChannelEnableWrite]; split <;> exact ⟨_, rfl⟩
  | supervisorPortWrite => simp only [exec, execSupervisorPortWrite]; split <;> exact ⟨_, rfl⟩
  | apertureBaseWrite => simp only [exec, execApertureBaseWrite]; split <;> exact ⟨_, rfl⟩
  | grantSetWrite => simp only [exec, execGrantSetWrite]; split <;> exact ⟨_, rfl⟩
  | stagingWrite => simp only [exec, execStagingWrite]; split <;> exact ⟨_, rfl⟩
  | portConfigWrite => simp only [exec, execPortConfigWrite]; split <;> exact ⟨_, rfl⟩
  | faultClassWrite => simp only [exec, execFaultClassWrite]; split <;> exact ⟨_, rfl⟩
  | settingWrite => simp only [exec, execSettingWrite]; split <;> exact ⟨_, rfl⟩
  | latchedRead => simp only [exec, execLatchedRead]; split <;> exact ⟨_, rfl⟩
  | commit => simp only [exec, execCommit]; split <;> exact ⟨_, rfl⟩
  | reseedStaging => simp only [exec, execReseedStaging]; split <;> exact ⟨_, rfl⟩
  | validationComplete => simp only [exec, execValidationComplete]; split <;> exact ⟨_, rfl⟩
  | tDrnExpiry => simp only [exec, execTDrnExpiry]; split <;> exact ⟨_, rfl⟩
  | portEnable => simp only [exec, execPortEnable]; split <;> exact ⟨_, rfl⟩
  | portRetrain => simp only [exec, execPortRetrain]; split <;> exact ⟨_, rfl⟩
  | portReset =>
    simp only [exec, execPortReset]
    split
    · split
      · exact endPortCommand_answers ..
      · exact ⟨_, rfl⟩
    · exact ⟨_, rfl⟩
  | portDisable =>
    simp only [exec, execPortDisable]
    split
    · split
      · exact endPortCommand_answers ..
      · exact ⟨_, rfl⟩
    · exact ⟨_, rfl⟩
  | portIsolate =>
    simp only [exec, execPortIsolate]
    split
    · split
      · exact endPortCommand_answers ..
      · exact ⟨_, rfl⟩
    · exact ⟨_, rfl⟩
  | portRestore =>
    simp only [exec, execPortRestore]
    split
    · split <;> exact ⟨_, rfl⟩
    · exact ⟨_, rfl⟩
  | faultPop => simp only [exec, execFaultPop]; split <;> exact ⟨_, rfl⟩
  | snapshotRelease => simp only [exec, execSnapshotRelease]; split <;> exact ⟨_, rfl⟩
  | channelRearm => simp only [exec, execChannelRearm]; split <;> exact ⟨_, rfl⟩
  | bridgeReset => simp only [exec, execBridgeReset]; split <;> exact ⟨_, rfl⟩
  | unknownCommand => simp only [exec, execUnknownCommand]; split <;> exact ⟨_, rfl⟩
  | selfPortCommandAction => simp only [exec, execSelfPortCommandAction]; split <;> exact ⟨_, rfl⟩
  | warmReset => simp only [exec, execWarmReset]; split <;> exact ⟨_, rfl⟩
  | malformedApertureAccess => simp only [exec, execMalformedApertureAccess]; split <;> exact ⟨_, rfl⟩

/-! ## The settings -/

/-- A setting's write keeps the moment and the queue. -/
theorem SettingWrite.clock {s t : State} (h : SettingWrite s t) : t.pending = s.pending ∧ t.now = s.now := by
  cases h <;> exact ⟨rfl, rfl⟩

/-- No small change touches the queue of commands or takes the moment back. -/
theorem Micro.clock {c : Instr} {s t : State} (h : Micro c s t) : t.pending = s.pending ∧ s.now ≤ t.now := by
  cases h with
  | calm hc => exact ⟨hc.still.pending, hc.still.now.ge⟩
  | time m hm => exact ⟨rfl, hm⟩
  | write _ hw => exact ⟨hw.clock.1, hw.clock.2.ge⟩
  | state p u _ => exact ⟨by simp, by simp⟩
  | warm =>
    have hc : s.warm.pending = s.warmCommit.pending ∧ s.warm.now = s.warmCommit.now := ⟨rfl, rfl⟩
    rw [hc.1, hc.2]
    unfold State.warmCommit
    split <;> exact ⟨rfl, Nat.le_refl _⟩
  | entries | allocate | swap | endCommit | beginDrain | takeCommit | staging | pop | release | cold =>
    exact ⟨rfl, Nat.le_refl _⟩

/-- Settles O2: no arm of `exec` is a fault or a refusal, and every command is a chain of small changes, none of which
touches the queue or takes the moment back. -/
theorem everyCommandAnswersANextState : Obligations.EveryCommandAnswersANextState := by
  intro c s
  obtain ⟨t, ht⟩ := exec_answers c s
  have hclock : t.pending = s.pending ∧ s.now ≤ t.now :=
    (exec_evolves (δ := .zero) ht).micros.keeps (I := fun u => u.pending = s.pending ∧ s.now ≤ u.now)
      (fun u v hm hu => ⟨hm.clock.1.trans hu.1, hu.2.trans hm.clock.2⟩) ⟨rfl, Nat.le_refl _⟩
  exact ⟨t, ht, hclock⟩

/-- Calm changes keep every setting, the moment and the queue. -/
theorem Calm.fixed {g m : Prop} {s t : State} (h : Calm g m s t) : t.fixed = s.fixed := by
  have hkeep : ∀ {u : State}, u.hosts = s.hosts → u.targets = s.targets → s.mgmt.SameSettings u.mgmt →
      u.notifier.address = s.notifier.address ∧ u.notifier.tRntCode = s.notifier.tRntCode ∧
        u.notifier.resendLimit = s.notifier.resendLimit →
      u.commit = s.commit → u.now = s.now → u.pending = s.pending → u.fixed = s.fixed := by
    intro u hh ht hm hn hc hnow hp
    refine State.fixed_of_ports (fun h => ?_) (fun d => ?_) hm hn (by rw [hc]) hnow hp
    · rw [hh]; exact .refl _
    · rw [ht]; exact .refl _
  have hself : s.mgmt.SameSettings s.mgmt := ⟨rfl, rfl, rfl, rfl⟩
  cases h with
  | ports hs ts h1 h2 =>
    exact State.fixed_of_ports (fun h => ⟨(h1 h).1.kept.2.2.2, (h1 h).2⟩) (fun d => (h2 d).2) hself ⟨rfl, rfl, rfl⟩ rfl rfl rfl
  | admission a => exact hkeep rfl rfl hself ⟨rfl, rfl, rfl⟩ rfl rfl rfl
  | lists t _ _ => exact hkeep rfl rfl hself ⟨rfl, rfl, rfl⟩ rfl rfl rfl
  | mgmt m hm => exact hkeep rfl rfl hm ⟨rfl, rfl, rfl⟩ rfl rfl rfl
  | enqueued f => exact hkeep rfl rfl hself ⟨rfl, rfl, rfl⟩ rfl rfl rfl
  | snapped f c => exact hkeep rfl rfl hself ⟨rfl, rfl, rfl⟩ rfl rfl rfl
  | notifier n hn => exact hkeep rfl rfl hself (by cases hn <;> exact ⟨rfl, rfl, rfl⟩) rfl rfl rfl

theorem SameSettings.refl (s : State) : SameSettings s s := State.sameSettings_of_fixed rfl

theorem SameSettings.trans {s t u : State} (h : SameSettings s t) (k : SameSettings t u) : SameSettings s u where
  apertureBase := k.apertureBase.trans h.apertureBase
  grant := k.grant.trans h.grant
  supervisor := k.supervisor.trans h.supervisor
  classes := k.classes.trans h.classes
  notificationAddress := k.notificationAddress.trans h.notificationAddress
  tRntCode := k.tRntCode.trans h.tRntCode
  resendLimit := k.resendLimit.trans h.resendLimit
  drainDeadline := k.drainDeadline.trans h.drainDeadline
  attemptLimit p := (k.attemptLimit p).trans (h.attemptLimit p)
  hostLimit p := (k.hostLimit p).trans (h.hostLimit p)
  targetLimit d := (k.targetLimit d).trans (h.targetLimit d)
  timeoutCode d := (k.timeoutCode d).trans (h.timeoutCode d)
  threshold d := (k.threshold d).trans (h.threshold d)
  isolateOnFailing d := (k.isolateOnFailing d).trans (h.isolateOnFailing d)

theorem State.warmCommit_fixed (s : State) : s.warmCommit.fixed = s.fixed := by
  unfold State.warmCommit; split <;> rfl

/-- A warm reset keeps every setting (R202). -/
theorem State.warm_fixed (s : State) : s.warm.fixed = s.fixed := by
  refine Eq.trans ?_ s.warmCommit_fixed
  refine State.fixed_of_ports (fun h => ?_) (fun d => ?_) ⟨rfl, rfl, rfl, rfl⟩ ⟨rfl, rfl, rfl⟩ rfl rfl rfl
  · simp [State.warm, HostPort.SameConfig, PortUnit.warm, PortUnit.closed, PortUnit.emptied]
  · simp [State.warm, TargetPort.SameConfig, PortUnit.warm, PortUnit.closed, PortUnit.emptied]

/-- A small change keeps every setting, unless it is a register write of one or a cold reset. -/
theorem Micro.settings {c : Instr} {s t : State} (h : Micro c s t) :
    SameSettings s t ∨ c.writesSettings = true ∧ (SettingWrite s t ∨
      ∃ aps mgs, t = { State.resetWith aps mgs with now := s.now, pending := s.pending }) := by
  cases h with
  | calm hc => exact .inl (State.sameSettings_of_fixed hc.fixed)
  | state p u hu =>
    refine .inl (State.sameSettings_of_fixed ?_)
    have hlimit : u.attemptLimit = (s.link p).attemptLimit := by cases hu <;> rfl
    cases p with
    | host h =>
      refine State.fixed_of_ports (fun k => ?_) (fun d => .refl _) ⟨rfl, rfl, rfl, rfl⟩ ⟨rfl, rfl, rfl⟩ rfl rfl rfl
      by_cases e : k = h
      · subst e; simpa [State.setLink, HostPort.SameConfig] using hlimit
      · rw [show (s.setLink (.host h) fun _ => u).hosts[k] = s.hosts[k] from State.setHost_other s h k _ e]
        exact .refl _
    | target d =>
      refine State.fixed_of_ports (fun k => .refl _) (fun k => ?_) ⟨rfl, rfl, rfl, rfl⟩ ⟨rfl, rfl, rfl⟩ rfl rfl rfl
      by_cases e : k = d
      · subst e; simpa [State.setLink, TargetPort.SameConfig] using hlimit
      · rw [show (s.setLink (.target d) fun _ => u).targets[k] = s.targets[k] from State.setTarget_other s d k _ e]
        exact .refl _
  | time m _ => exact .inl ⟨rfl, rfl, rfl, rfl, rfl, rfl, rfl, rfl, fun p => by cases p <;> rfl, fun _ => rfl,
      fun _ => rfl, fun _ => rfl, fun _ => rfl, fun _ => rfl⟩
  | write hc hw => exact .inr ⟨hc, .inl hw⟩
  | cold aps mgs hc => exact .inr ⟨by rw [hc]; rfl, .inr ⟨aps, mgs, rfl⟩⟩
  | warm => exact .inl (State.sameSettings_of_fixed s.warm_fixed)
  | entries | allocate | swap | endCommit | beginDrain | takeCommit | staging | pop | release =>
    exact .inl (State.sameSettings_of_fixed rfl)

/-- Settles O35: a small change of a command that writes no setting keeps them all. -/
theorem settingsChangeOnlyByTheirWrites : Obligations.SettingsChangeOnlyByTheirWrites := by
  intro c s t ht hc
  refine (exec_evolves (δ := .zero) ht).micros.keeps (I := SameSettings s) (fun u v hm hu => ?_) (.refl s)
  rcases hm.settings with h | ⟨h, -⟩
  · exact hu.trans h
  · rw [hc] at h; cases h

/-- States with equal settings have them in range together. -/
theorem SettingsLegal.of_same {s t : State} (h : SettingsLegal s) (k : SameSettings s t) : SettingsLegal t where
  grant := k.grant ▸ h.grant
  classes x := by
    have := h.classes x
    unfold State.classOf at this ⊢
    rwa [k.classes]
  attemptLimit p := k.attemptLimit p ▸ h.attemptLimit p
  hostLimit p := k.hostLimit p ▸ h.hostLimit p
  targetLimit d := k.targetLimit d ▸ h.targetLimit d
  drainDeadline := k.drainDeadline ▸ h.drainDeadline
  tRntCode := k.tRntCode ▸ h.tRntCode
  resendLimit := k.resendLimit ▸ h.resendLimit
  address := k.notificationAddress ▸ h.address

/-- A cold reset puts every setting in range, whatever the straps (R44, R97, R178, R194, R204). -/
theorem SettingsLegal.resetWith (aps mgs : BitVec 2) : SettingsLegal (State.resetWith aps mgs) where
  grant := by
    change 1#4 <<< mgs.toNat ≠ 0
    revert mgs; decide
  classes k := by cases k <;> rfl
  attemptLimit p := by
    cases p with
    | host h => simp [State.resetWith, HostPort.reset, PortUnit.reset]
    | target d => simp [State.resetWith, TargetPort.reset, PortUnit.reset]
  hostLimit h := by simp [State.resetWith, HostPort.reset]
  targetLimit d := by simp [State.resetWith, TargetPort.reset]
  drainDeadline := by simp [State.resetWith, CommitEngine.reset]
  tRntCode := by simp [State.resetWith, Notifier.reset]
  resendLimit := by simp [State.resetWith, Notifier.reset]
  address := rfl

theorem FaultKind.code_injective {k l : FaultKind} (h : k.code = l.code) : k = l := by
  cases k <;> cases l <;> first | rfl | cases h

/-- A register write leaves every setting in its range. -/
theorem SettingWrite.legal {s t : State} (h : SettingWrite s t) (hs : SettingsLegal s) : SettingsLegal t := by
  cases h with
  | grant v hv => exact { hs with grant := hv }
  | base v => exact { hs with }
  | supervisor k => exact { hs with }
  | faultClass k x hx =>
    refine { hs with classes := fun l => ?_ }
    by_cases e : l = k
    · subst e; simpa [State.classOf] using hx
    · have hne : k.code.val ≠ l.code.val := fun e' => e (FaultKind.code_injective (Fin.ext e'.symm))
      have := hs.classes l
      simpa [State.classOf, Vector.getElem_set_ne, hne] using this
  | hostLimits k n m h1 h2 h3 h4 =>
    have hk : ∀ p, p ≠ k → (s.setHost k fun x => { x with
        link := { x.link with attemptLimit := n }, outstandingLimit := m }).hosts[p] = s.hosts[p] := fun p hp =>
      State.setHost_other s k p _ hp
    refine { hs with attemptLimit := fun p => ?_, hostLimit := fun p => ?_ }
    · cases p with
      | host p =>
        by_cases e : p = k
        · subst e; simpa using ⟨h1, h2⟩
        · change 1 ≤ (State.hosts _)[p].link.attemptLimit ∧ (State.hosts _)[p].link.attemptLimit ≤ 4
          rw [hk p e]; exact hs.attemptLimit (.host p)
      | target d => exact hs.attemptLimit (.target d)
    · by_cases e : p = k
      · subst e; simpa using ⟨h3, h4⟩
      · rw [hk p e]; exact hs.hostLimit p
  | attemptLimit d n h1 h2 =>
    refine { hs with attemptLimit := fun p => ?_, targetLimit := fun p => ?_ }
    · cases p with
      | host p => exact hs.attemptLimit (.host p)
      | target k =>
        by_cases e : k = d
        · subst e; simpa using ⟨h1, h2⟩
        · change 1 ≤ (State.targets _)[k].link.attemptLimit ∧ (State.targets _)[k].link.attemptLimit ≤ 4
          rw [show (s.setTarget d _).targets[k] = s.targets[k] from State.setTarget_other s d k _ e]
          exact hs.attemptLimit (.target k)
    · by_cases e : p = d
      · subst e; simpa using hs.targetLimit p
      · rw [show (s.setTarget d _).targets[p] = s.targets[p] from State.setTarget_other s d p _ e]
        exact hs.targetLimit p
  | targetConfig d m c x b hm =>
    refine { hs with attemptLimit := fun p => ?_, targetLimit := fun p => ?_ }
    · cases p with
      | host p => exact hs.attemptLimit (.host p)
      | target k =>
        by_cases e : k = d
        · subst e; simpa using hs.attemptLimit (.target k)
        · change 1 ≤ (State.targets _)[k].link.attemptLimit ∧ (State.targets _)[k].link.attemptLimit ≤ 4
          rw [show (s.setTarget d _).targets[k] = s.targets[k] from State.setTarget_other s d k _ e]
          exact hs.attemptLimit (.target k)
    · by_cases e : p = d
      · subst e; simpa using hm
      · rw [show (s.setTarget d _).targets[p] = s.targets[p] from State.setTarget_other s d p _ e]
        exact hs.targetLimit p
  | address a ha => exact { hs with address := ha }
  | tRntCode n hn => exact { hs with tRntCode := hn }
  | resendLimit n hn => exact { hs with resendLimit := hn }
  | drainDeadline n h1 h2 => exact { hs with drainDeadline := ⟨h1, h2⟩ }

/-- A state differing in the queue or the moment alone has the same settings. -/
theorem SameSettings.of_clock (s : State) (n : Nat) (l : List Instr) :
    SameSettings s { s with now := n, pending := l } :=
  ⟨rfl, rfl, rfl, rfl, rfl, rfl, rfl, rfl, fun p => by cases p <;> rfl, fun _ => rfl, fun _ => rfl, fun _ => rfl,
    fun _ => rfl, fun _ => rfl⟩

/-- Settles O36: a small change keeps the settings, writes one in range, or is a cold reset. -/
theorem stepKeepsSettingsLegal : Obligations.StepKeepsSettingsLegal := by
  intro s t hs h
  refine step_keeps (fun s l hs => hs.of_same (.of_clock s s.now l)) (fun s n hs => hs.of_same (.of_clock s n s.pending))
    (fun c s t hm hs => ?_) hs h
  rcases hm.settings with hk | ⟨-, hw | ⟨aps, mgs, rfl⟩⟩
  · exact hs.of_same hk
  · exact hw.legal hs
  · exact (SettingsLegal.resetWith aps mgs).of_same (.of_clock _ _ _)

end Sys2Proof.Machine

/-! PROOFS. What a small change can do to each block, said once for each: the recorder, the notification unit, a port unit,
the banks with the commit engine, and the ORT. The invariants of those blocks follow. -/

namespace Sys2Proof.Machine

-- One proof at a time: side by side they take more memory than the check allows.
set_option Elab.async false

variable {c : Instr} {s t : State}

/-! ## The fault recorder -/

/-- A small change of the recorder: a record queued, the snapshot filled or marked, or one of the two commands to it. -/
inductive RecorderStep (c : Instr) (r : Recorder) : Recorder → Prop
  | same : RecorderStep c r r
  | enqueued (f : FaultRecord) : RecorderStep c r (r.enqueue f)
  | snapped (f : FaultRecord) (x : Option HeaderCapture) : RecorderStep c r (r.snap f x)
  | popped : c = .faultPop → RecorderStep c r r.pop.1
  | released : c = .snapshotRelease → RecorderStep c r r.release.1
  | reset (aps mgs : BitVec 2) : c = .coldReset aps mgs → RecorderStep c r Recorder.reset

theorem SettingWrite.recorder (h : SettingWrite s t) : t.recorder = s.recorder := by
  cases h <;> rfl

theorem State.warm_recorder (s : State) : s.warm.recorder = s.recorder := by
  change s.warmCommit.recorder = s.recorder
  unfold State.warmCommit; split <;> rfl

theorem Micro.recorder (h : Micro c s t) : RecorderStep c s.recorder t.recorder := by
  cases h with
  | calm hc =>
    cases hc with
    | enqueued f => exact .enqueued f
    | snapped f x => exact .snapped f x
    | ports | admission | lists | mgmt | notifier => exact .same
  | state p u _ => rw [State.setLink_recorder]; exact .same
  | pop hc => exact .popped hc
  | release hc => exact .released hc
  | write _ hw => rw [hw.recorder]; exact .same
  | warm => rw [s.warm_recorder]; exact .same
  | cold aps mgs hc => exact .reset aps mgs hc
  | entries | allocate | time | swap | endCommit | beginDrain | takeCommit | staging => exact .same

theorem Recorder.enqueue_snapshot (r : Recorder) (f : FaultRecord) : (r.enqueue f).snapshot = r.snapshot := by
  unfold Recorder.enqueue; split <;> rfl

theorem Recorder.enqueue_prefix (r : Recorder) (f : FaultRecord) : r.queue <+: (r.enqueue f).queue := by
  unfold Recorder.enqueue; split
  · exact List.prefix_append _ _
  · exact List.prefix_refl _

theorem Recorder.snap_queue (r : Recorder) (f : FaultRecord) (x : Option HeaderCapture) :
    (r.snap f x).queue = r.queue := by
  unfold Recorder.snap; split <;> rfl

theorem Recorder.pop_snapshot (r : Recorder) : r.pop.1.snapshot = r.snapshot := by
  unfold Recorder.pop; split <;> rfl

theorem Recorder.release_queue (r : Recorder) : r.release.1.queue = r.queue := by
  unfold Recorder.release; split <;> rfl

/-- Only FAULT_POP and a cold reset take a record out of the queue. -/
theorem RecorderStep.queue {r u : Recorder} (h : RecorderStep c r u) (hcold : ∀ aps mgs, c ≠ .coldReset aps mgs)
    (hpop : c ≠ .faultPop) : r.queue <+: u.queue := by
  cases h with
  | same => exact List.prefix_refl _
  | enqueued f => exact r.enqueue_prefix f
  | snapped f x => rw [r.snap_queue]
  | popped hc => exact absurd hc hpop
  | released _ => rw [r.release_queue]
  | reset aps mgs hc => exact absurd hc (hcold aps mgs)

/-- A HELD snapshot keeps its record and capture but for SNAPSHOT_RELEASE and a cold reset. -/
theorem RecorderStep.snapshot {r u : Recorder} (h : RecorderStep c r u) (hcold : ∀ aps mgs, c ≠ .coldReset aps mgs)
    (hrel : c ≠ .snapshotRelease) (hheld : r.snapshot.held = true) :
    u.snapshot.held = true ∧ u.snapshot.record = r.snapshot.record ∧ u.snapshot.capture = r.snapshot.capture := by
  cases h with
  | same => exact ⟨hheld, rfl, rfl⟩
  | enqueued f => rw [r.enqueue_snapshot]; exact ⟨hheld, rfl, rfl⟩
  | snapped f x => unfold Recorder.snap; rw [if_pos hheld]; exact ⟨hheld, rfl, rfl⟩
  | popped _ => rw [r.pop_snapshot]; exact ⟨hheld, rfl, rfl⟩
  | released hc => exact absurd hc hrel
  | reset aps mgs hc => exact absurd hc (hcold aps mgs)

/-- Settles O53: the recorder's small changes append, and keep a HELD snapshot. -/
theorem faultRecordsAreOnlyAppended : Obligations.FaultRecordsAreOnlyAppended := by
  intro c s t ht hcold
  have he := (exec_evolves (δ := .zero) ht).micros
  refine ⟨fun hpop => ?queue, fun hrel hheld => ?snapshot⟩
  case queue =>
    exact he.keeps (I := fun u => s.recorder.queue <+: u.recorder.queue)
      (fun u v hm hu => hu.trans (hm.recorder.queue hcold hpop)) (List.prefix_refl _)
  case snapshot =>
    refine he.keeps (I := fun u => u.recorder.snapshot.held = true ∧
      u.recorder.snapshot.record = s.recorder.snapshot.record ∧
      u.recorder.snapshot.capture = s.recorder.snapshot.capture) (fun u v hm hu => ?_) ⟨hheld, rfl, rfl⟩
    obtain ⟨hh, hr, hx⟩ := hu
    obtain ⟨kh, kr, kx⟩ := hm.recorder.snapshot hcold hrel hh
    exact ⟨kh, kr.trans hr, kx.trans hx⟩

theorem RecorderStep.bounded {r u : Recorder} (h : RecorderStep c r u) (hr : r.queue.length ≤ 16) :
    u.queue.length ≤ 16 := by
  cases h with
  | same => exact hr
  | enqueued f =>
    unfold Recorder.enqueue
    split
    · next hl => simpa [Config.faultQueueCapacity] using hl
    · exact hr
  | snapped f x => rw [r.snap_queue]; exact hr
  | popped _ =>
    unfold Recorder.pop
    split
    · exact hr
    · next hq => rw [hq] at hr; exact Nat.le_of_succ_le hr
  | released _ => rw [r.release_queue]; exact hr
  | reset => exact Nat.zero_le _

/-! ## The notification unit -/

/-- A small change of the notification unit: one of its own, a setting's write, or a reset. -/
inductive ChannelStep (n : Notifier) : Notifier → Prop
  | same : ChannelStep n n
  | step {m : Notifier} : NotifierStep n m → ChannelStep n m
  | settings (a : Addr) (x y : Nat) : ChannelStep n { n with address := a, tRntCode := x, resendLimit := y }
  | warm : ChannelStep n n.warm
  | reset : ChannelStep n Notifier.reset

theorem State.warmCommit_notifier (s : State) : s.warmCommit.notifier = s.notifier := by
  unfold State.warmCommit; split <;> rfl

theorem Micro.notifier (h : Micro c s t) : ChannelStep s.notifier t.notifier := by
  cases h with
  | calm hc =>
    cases hc with
    | notifier n hn => exact .step hn
    | ports | admission | lists | mgmt | enqueued | snapped => exact .same
  | state p u _ => rw [State.setLink_notifier]; exact .same
  | write _ hw =>
    cases hw with
    | address a _ => exact .settings a _ _
    | tRntCode x _ => exact .settings _ x _
    | resendLimit y _ => exact .settings _ _ y
    | grant | base | supervisor | faultClass | hostLimits | attemptLimit | targetConfig | drainDeadline => exact .same
  | warm =>
    change ChannelStep s.notifier s.warmCommit.notifier.warm
    rw [s.warmCommit_notifier]; exact .warm
  | cold => exact .reset
  | entries | allocate | time | swap | endCommit | beginDrain | takeCommit | staging | pop | release => exact .same

/-- Coalescing changes no item's sent flag (R180). -/
theorem coalesceInto_sent (d : DPort) (p : Packet) (l : List PendingItem) :
    (coalesceInto d p l).map (·.sent) = l.map (·.sent) := by
  induction l with
  | nil => rfl
  | cons i l ih =>
    unfold coalesceInto
    split
    · have : (i.coalesced p).sent = i.sent := by unfold PendingItem.coalesced; split <;> rfl
      simp [this]
    · simp [ih]

theorem coalesceInto_length (d : DPort) (p : Packet) (l : List PendingItem) :
    (coalesceInto d p l).length = l.length := by
  simpa using congrArg List.length (coalesceInto_sent d p l)

/-- A list whose sent flags are those of another has its head sent, and the others unsent, together with it. -/
theorem sentFlags_head {l m : List PendingItem} (h : l.map (·.sent) = m.map (·.sent))
    (hm : ∃ i rest, m = i :: rest ∧ i.sent = true) : ∃ i rest, l = i :: rest ∧ i.sent = true := by
  obtain ⟨i, rest, rfl, hi⟩ := hm
  cases l with
  | nil => simp at h
  | cons j l => simp at h; exact ⟨j, l, rfl, h.1.trans hi⟩

theorem sentFlags_tail {l m : List PendingItem} (h : l.map (·.sent) = m.map (·.sent))
    (hm : ∀ i ∈ m.tail, i.sent = false) : ∀ i ∈ l.tail, i.sent = false := by
  have ht : l.tail.map (·.sent) = m.tail.map (·.sent) := by
    rw [List.map_tail, List.map_tail, h]
  intro i hi
  have : i.sent ∈ m.tail.map (·.sent) := ht ▸ List.mem_map_of_mem hi
  obtain ⟨j, hj, e⟩ := List.mem_map.1 this
  exact e ▸ hm j hj

/-- The conditions of a fitting channel are about the notification unit alone. -/
theorem ChannelFits.of_notifier (h : ChannelFits s) (e : t.notifier = s.notifier) : ChannelFits t :=
  ⟨e ▸ h.outstanding, e ▸ h.timer, e ▸ h.copy, e ▸ h.headSent, e ▸ h.othersUnsent⟩

/-- A change of the notification unit leaves the channel fitting (R184 to R191). -/
theorem NotifierStep.fits {m : Notifier} (h : NotifierStep s.notifier m) (hs : ChannelFits s) (ht : t.notifier = m) :
    ChannelFits t := by
  subst ht
  generalize hn : t.notifier = m at h
  have hout := hs.outstanding
  have htim := hs.timer
  cases h with
  | send i rest q o k hch hi =>
    have hot := hs.othersUnsent
    refine ⟨?_, ?_, ?_, ?_, ?_⟩ <;> rw [hn]
    · simp
    · simp
    · simp
    · exact fun _ => ⟨_, rest, rfl, rfl⟩
    · rw [hi] at hot; exact hot
  | append i hl hi =>
    refine ⟨?_, ?_, ?_, ?_, ?_⟩ <;> rw [hn]
    · exact hout
    · exact htim
    · exact hs.copy
    · intro ho
      obtain ⟨j, rest, e, hj⟩ := hs.headSent ho
      exact ⟨j, rest ++ [i], by simp [e], hj⟩
    · intro j hj
      have hot := hs.othersUnsent j
      cases hl' : s.notifier.items with
      | nil => simp [hl'] at hj
      | cons k rest =>
        simp only [hl', List.cons_append, List.tail_cons, List.mem_append, List.mem_singleton] at hj
        rcases hj with hj | rfl
        · exact hot (by simpa [hl'] using hj)
        · exact hi
  | coalesce d p =>
    have hflags := coalesceInto_sent d p s.notifier.items
    refine ⟨?_, ?_, ?_, ?_, ?_⟩ <;> rw [hn]
    · exact hout
    · exact htim
    · exact hs.copy
    · exact fun ho => sentFlags_head hflags (hs.headSent ho)
    · exact sentFlags_tail hflags hs.othersUnsent
  | lost =>
    refine ⟨?_, ?_, ?_, ?_, ?_⟩ <;> rw [hn]
    exacts [hout, htim, hs.copy, hs.headSent, hs.othersUnsent]
  | noCopy =>
    refine ⟨?_, ?_, ?_, ?_, ?_⟩ <;> rw [hn]
    exacts [hout, htim, by simp, hs.headSent, hs.othersUnsent]
  | copied p hch =>
    refine ⟨?_, ?_, ?_, ?_, ?_⟩ <;> rw [hn]
    exacts [hout, htim, fun _ => hch, hs.headSent, hs.othersUnsent]
  | restarted r k hch =>
    refine ⟨?_, ?_, ?_, ?_, ?_⟩ <;> rw [hn]
    exacts [⟨fun _ => .inl rfl, fun _ => hout.2 hch⟩, by simp, fun _ => rfl, hs.headSent, hs.othersUnsent]
  | stalled hch =>
    refine ⟨?_, ?_, ?_, ?_, ?_⟩ <;> rw [hn]
    exacts [⟨fun _ => .inr rfl, fun _ => hout.2 (.inl hch)⟩, by simp, by simp, hs.headSent, hs.othersUnsent]
  | acknowledged =>
    refine ⟨?_, ?_, ?_, ?_, ?_⟩ <;> rw [hn]
    · simp [Notifier.acknowledged]
    · simp [Notifier.acknowledged]
    · simp [Notifier.acknowledged]
    · simp [Notifier.acknowledged]
    · exact fun i hi => hs.othersUnsent i (List.mem_of_mem_tail hi)
  | disabled =>
    refine ⟨?_, ?_, ?_, ?_, ?_⟩ <;> rw [hn]
    · simp [Notifier.disabled]
    · simp [Notifier.disabled]
    · simp [Notifier.disabled]
    · simp [Notifier.disabled]
    · exact hs.othersUnsent
  | enabled hch =>
    have hcopy := hs.copy
    rw [hch] at hout htim hcopy
    refine ⟨?_, ?_, ?_, ?_, ?_⟩ <;> rw [hn]
    exacts [by simpa using hout, by simpa using htim, fun h => absurd (hcopy h) (by simp), hs.headSent, hs.othersUnsent]

theorem ChannelStep.fits (h : ChannelStep s.notifier t.notifier) (hs : ChannelFits s) : ChannelFits t := by
  generalize hn : t.notifier = m at h
  cases h with
  | same => exact hs.of_notifier hn
  | step h => exact h.fits hs hn
  | settings a x y =>
    refine ⟨?_, ?_, ?_, ?_, ?_⟩ <;> rw [hn]
    exacts [hs.outstanding, hs.timer, hs.copy, hs.headSent, hs.othersUnsent]
  | warm =>
    refine ⟨?_, ?_, ?_, ?_, ?_⟩ <;> rw [hn]
    · simp only [Notifier.warm]; split <;> simp
    · simp only [Notifier.warm]; split <;> simp
    · simp [Notifier.warm]
    · simp [Notifier.warm]
    · simp [Notifier.warm]
  | reset =>
    refine ⟨?_, ?_, ?_, ?_, ?_⟩ <;> rw [hn] <;> simp [Notifier.reset]

/-- Settles O59: each small change of the notification unit leaves the channel fitting. -/
theorem stepKeepsTheChannelFitting : Obligations.StepKeepsTheChannelFitting := fun _ _ hs h =>
  step_keeps (fun _ _ h => h.of_notifier rfl) (fun _ _ h => h.of_notifier rfl) (fun _ _ _ hm h => hm.notifier.fits h) hs h

theorem ChannelStep.bounded {n m : Notifier} (h : ChannelStep n m) (hn : n.items.length ≤ 8) : m.items.length ≤ 8 := by
  cases h with
  | same => exact hn
  | step h =>
    cases h with
    | send i rest _ _ _ _ hi => rw [hi] at hn; exact hn
    | append i hl _ => simpa [Config.pendingCapacity] using hl
    | coalesce d p => simpa [coalesceInto_length] using hn
    | acknowledged => exact (by simp [Notifier.acknowledged]; omega)
    | disabled => exact hn
    | lost | noCopy | copied | restarted | stalled | enabled => exact hn
  | settings => exact hn
  | warm => exact Nat.zero_le _
  | reset => exact Nat.zero_le _

/-! ## A port unit -/

/-- A small change of one port unit. -/
inductive LinkStep (cap : Nat) (u : PortUnit) : PortUnit → Prop
  | queue {v : PortUnit} : QueueStep cap u v → LinkStep cap u v
  | state {v : PortUnit} : StateStep u v → LinkStep cap u v
  | limit (n : Nat) : LinkStep cap u { u with attemptLimit := n }
  | warm : LinkStep cap u u.warm
  | reset : LinkStep cap u PortUnit.reset

theorem State.warmCommit_link (s : State) (p : Port) : s.warmCommit.link p = s.link p := by
  unfold State.warmCommit; split
  · rfl
  · cases p <;> rfl

theorem State.warm_link (s : State) (p : Port) : s.warm.link p = (s.link p).warm := by
  rw [← s.warmCommit_link p]
  cases p <;> simp [State.warm, State.link]

theorem Micro.link (h : Micro c s t) (p : Port) : LinkStep (Port.egressCapacity p) (s.link p) (t.link p) := by
  have hsame : t.link p = s.link p → LinkStep (Port.egressCapacity p) (s.link p) (t.link p) := fun e => by
    rw [e]; exact .queue .same
  cases h with
  | calm hc =>
    cases hc with
    | ports hs ts h1 h2 =>
      cases p with
      | host h => exact .queue (h1 h).1
      | target d => exact .queue (h2 d).1
    | admission | lists | mgmt | enqueued | snapped | notifier => exact hsame (by cases p <;> rfl)
  | state q u hu =>
    by_cases e : p = q
    · subst e; rw [State.link_setLink]; exact .state hu
    · exact hsame (State.link_setLink_of_ne s e _)
  | write _ hw =>
    rcases hw.link p with e | ⟨n, e⟩
    · exact hsame e
    · rw [e]; exact .limit n
  | warm => rw [s.warm_link]; exact .warm
  | cold =>
    cases p with
    | host h => exact (by simpa [State.link, State.resetWith, HostPort.reset] using LinkStep.reset)
    | target d => exact (by simpa [State.link, State.resetWith, TargetPort.reset] using LinkStep.reset)
  | entries | allocate | time | swap | endCommit | beginDrain | takeCommit | staging | pop | release =>
    exact hsame (by cases p <;> rfl)

/-- No small change takes a port's queue beyond its capacity (R13, R29, R30, R107). -/
theorem LinkStep.bounded {cap : Nat} {u v : PortUnit} (h : LinkStep cap u v)
    (hu : u.ingress.length ≤ 16 ∧ u.egress.length ≤ cap) : v.ingress.length ≤ 16 ∧ v.egress.length ≤ cap := by
  obtain ⟨hi, he⟩ := hu
  cases h with
  | queue h =>
    cases h with
    | same => exact ⟨hi, he⟩
    | pop => exact ⟨by simp; omega, he⟩
    | arrive x _ hl => exact ⟨by simp; omega, he⟩
    | place x _ hl => exact ⟨hi, by simp; omega⟩
    | depart l hl => exact ⟨hi, hl.length_le.trans he⟩
  | state h =>
    cases h with
    | left | closed => exact ⟨Nat.zero_le _, Nat.zero_le _⟩
    | attempt | trained | failed | returned | restored | isolated => exact ⟨hi, he⟩
  | limit n => exact ⟨hi, he⟩
  | warm => exact ⟨Nat.zero_le _, Nat.zero_le _⟩
  | reset => exact ⟨Nat.zero_le _, Nat.zero_le _⟩

/-- The capacities, port by port. -/
theorem queuesWithinCapacity_iff (s : State) : QueuesWithinCapacity s ↔
    (∀ p : Port, (s.link p).ingress.length ≤ 16 ∧ (s.link p).egress.length ≤ Port.egressCapacity p) ∧
      s.recorder.queue.length ≤ 16 ∧ s.notifier.items.length ≤ 8 := by
  constructor
  · intro h
    refine ⟨fun p => ?_, h.faultQueue, h.pendingList⟩
    cases p with
    | host k => exact ⟨h.hostIngress k, h.hostEgress k⟩
    | target d => exact ⟨h.targetIngress d, h.targetEgress d⟩
  · rintro ⟨hp, hr, hn⟩
    exact ⟨fun k => (hp (.host k)).1, fun k => (hp (.host k)).2, fun d => (hp (.target d)).1,
      fun d => (hp (.target d)).2, hr, hn⟩

/-- Settles O14: each small change of a queue or list leaves it within its capacity. -/
theorem stepKeepsQueuesWithinCapacity : Obligations.StepKeepsQueuesWithinCapacity := by
  intro s t hs h
  rw [queuesWithinCapacity_iff] at hs ⊢
  refine step_keeps (I := fun s => (∀ p : Port, (s.link p).ingress.length ≤ 16 ∧
    (s.link p).egress.length ≤ Port.egressCapacity p) ∧ s.recorder.queue.length ≤ 16 ∧ s.notifier.items.length ≤ 8)
    (fun s l h => ⟨fun p => ?_, h.2⟩) (fun s n h => ⟨fun p => ?_, h.2⟩) (fun c s t hm h => ?_) hs h
  · cases p with
    | host k => exact h.1 (.host k)
    | target d => exact h.1 (.target d)
  · cases p with
    | host k => exact h.1 (.host k)
    | target d => exact h.1 (.target d)
  · exact ⟨fun p => (hm.link p).bounded (h.1 p), hm.recorder.bounded h.2.1, hm.notifier.bounded h.2.2⟩

/-- A port that is neither UP nor ISOLATED holds no packet. -/
def PortUnit.QuietEmpty (u : PortUnit) : Prop :=
  u.state ≠ .up → u.state ≠ .isolated → u.ingress = [] ∧ u.egress = []

/-- t_TRN runs exactly in TRAINING. -/
def PortUnit.TimerFits (u : PortUnit) : Prop := u.tTrn.isSome = true ↔ u.state = .training

theorem LinkStep.quietEmpty {cap : Nat} {u v : PortUnit} (h : LinkStep cap u v) (hu : u.QuietEmpty) : v.QuietEmpty := by
  have hcarries : u.state.carries = true → ∀ w : PortUnit, w.state = u.state → w.QuietEmpty := by
    intro hc w hw h1 h2
    rcases (LinkState.carries_iff u.state).1 hc with e | e
    · exact absurd (hw.trans e) h1
    · exact absurd (hw.trans e) h2
  have hempty : ∀ w : PortUnit, w.ingress = [] → w.egress = [] → w.QuietEmpty := fun w h1 h2 _ _ => ⟨h1, h2⟩
  have hquiet : u.state ≠ .up → u.state ≠ .isolated → ∀ w : PortUnit, w.ingress = u.ingress → w.egress = u.egress →
      w.QuietEmpty := fun h1 h2 w hi he => hempty w (hi.trans (hu h1 h2).1) (he.trans (hu h1 h2).2)
  cases h with
  | queue h =>
    cases h with
    | same => exact hu
    | pop => exact fun h1 h2 => ⟨by simp [(hu h1 h2).1], (hu h1 h2).2⟩
    | arrive x hc _ => exact hcarries hc _ rfl
    | place x hc _ => exact hcarries hc _ rfl
    | depart l hl => exact fun h1 h2 => ⟨(hu h1 h2).1, List.sublist_nil.1 ((hu h1 h2).2 ▸ hl)⟩
  | state h =>
    cases h with
    | attempt m hs => rcases hs with e | e <;> exact hquiet (by rw [e]; decide) (by rw [e]; decide) _ rfl rfl
    | trained => exact fun h1 _ => absurd rfl h1
    | failed e => exact hquiet (by rw [e]; decide) (by rw [e]; decide) _ rfl rfl
    | returned hs => rcases hs with e | e <;> exact hquiet (by rw [e]; decide) (by rw [e]; decide) _ rfl rfl
    | restored => exact fun h1 _ => absurd rfl h1
    | isolated => exact fun _ h2 => absurd rfl h2
    | left | closed => exact hempty _ rfl rfl
  | limit n => exact hu
  | warm => exact hempty _ rfl rfl
  | reset => exact hempty _ rfl rfl

theorem LinkStep.timerFits {cap : Nat} {u v : PortUnit} (h : LinkStep cap u v) (hu : u.TimerFits) : v.TimerFits := by
  have hoff : ∀ l : LinkState, u.state = l → l ≠ .training → u.tTrn.isSome = false := fun l e hl => by
    cases hx : u.tTrn.isSome with
    | false => rfl
    | true => exact absurd (e.symm.trans (hu.1 hx)) hl
  have hstop : ∀ w : PortUnit, w.tTrn.isSome = false → w.state ≠ .training → w.TimerFits := fun w h1 h2 =>
    ⟨fun h => absurd (h1.symm.trans h) (by decide), fun h => absurd h h2⟩
  cases h with
  | queue h => unfold PortUnit.TimerFits; rw [h.kept.1, h.kept.2.2.1]; exact hu
  | state h =>
    cases h with
    | attempt m _ => exact ⟨fun _ => rfl, fun _ => rfl⟩
    | trained => exact hstop _ rfl (by simp)
    | failed => exact hstop _ rfl (by simp)
    | returned hs => rcases hs with e | e <;> exact hstop _ (hoff _ e (by decide)) (by simp)
    | restored e => exact hstop _ (hoff _ e (by decide)) (by simp)
    | isolated e => exact hstop _ (hoff _ e (by decide)) (by simp)
    | left l hs _ hl => rcases hs with e | e <;> exact hstop _ (hoff _ e (by decide)) hl
    | closed l _ hl => exact hstop _ rfl hl
  | limit n => exact hu
  | warm =>
    refine hstop _ rfl ?_
    simp only [PortUnit.warm, PortUnit.closed]
    split <;> decide
  | reset => exact hstop _ rfl (by simp [PortUnit.reset])

end Sys2Proof.Machine

/-! PROOFS. The commit engine and the banks: when t_DRN runs, what changes a bank, the order of validation's checks, and
that a bank in force has passed them. -/

namespace Sys2Proof.Machine

-- One proof at a time: side by side they take more memory than the check allows.
set_option Elab.async false

variable {c : Instr} {s t : State}

/-! ## What a small change does to the banks and the commit engine -/

/-- A change of the banks and the commit engine, with its guard (R76, R78 to R81, R85 to R93, R96). -/
inductive EngineStep (c : Instr) (s : State) : Banks → CommitEngine → Prop
  | same : EngineStep c s s.banks s.commit
  | swapped : s.commit.engine ≠ .idle → (s.commit.engine ≠ .draining → s.banks.staging.validate = none) →
      EngineStep c s s.swapped.banks s.swapped.commit
  | ended (r : CommitResult) : s.commit.engine ≠ .idle → EngineStep c s s.banks (s.endCommit r).commit
  | draining : s.commit.engine ≠ .idle → s.banks.staging.validate = none →
      EngineStep c s s.banks s.beginDrain.commit
  | taken (m : CommitMode) : c = .commit → s.commit.engine = .idle →
      EngineStep c s s.banks { s.commit with engine := .validating m }
  | staging (b : Bank) : c = .stagingWrite ∨ c = .reseedStaging → s.commit.engine = .idle →
      EngineStep c s { s.banks with staging := b } s.commit
  | deadline (n : Nat) : EngineStep c s s.banks { s.commit with drainDeadline := n }
  | reset (aps mgs : BitVec 2) : c = .coldReset aps mgs →
      EngineStep c s (State.resetWith aps mgs).banks (State.resetWith aps mgs).commit

/-- What a small change does to the banks and the commit engine. -/
theorem Micro.engine (h : Micro c s t) : EngineStep c s t.banks t.commit := by
  cases h with
  | calm hc => rw [hc.still.banks, hc.still.commit]; exact .same
  | state p u _ =>
    have hb : (s.setLink p fun _ => u).banks = s.banks ∧ (s.setLink p fun _ => u).commit = s.commit := by
      cases p <;> exact ⟨rfl, rfl⟩
    rw [hb.1, hb.2]
    exact .same
  | swap hg =>
    refine .swapped ?_ ?_
    · rcases hg with e | ⟨⟨m, e⟩, -⟩ <;> simp [e]
    · intro hd
      rcases hg with e | ⟨-, hv⟩
      · exact absurd e hd
      · exact hv
  | endCommit r hne => exact .ended r hne
  | beginDrain hm hv _ =>
    obtain ⟨m, hm⟩ := hm
    exact .draining (by simp [hm]) hv
  | takeCommit m hc hi => exact .taken m hc hi
  | staging b hc hi => exact .staging b hc hi
  | write _ hw =>
    cases hw with
    | drainDeadline n _ _ => exact .deadline n
    | grant | base | supervisor | faultClass | hostLimits | attemptLimit | targetConfig | address | tRntCode | resendLimit =>
      exact .same
  | warm =>
    have hw : s.warm.banks = s.warmCommit.banks ∧ s.warm.commit = s.warmCommit.commit := ⟨rfl, rfl⟩
    rw [hw.1, hw.2]
    unfold State.warmCommit
    split
    · exact .same
    · next hne => exact .ended _ hne
  | cold aps mgs hc => exact .reset aps mgs hc
  | entries | allocate | time | pop | release => exact .same

/-! ## t_DRN (R87, R90) -/

/-- t_DRN runs exactly in DRAINING. -/
def CommitEngine.TimerFits (e : CommitEngine) : Prop := e.tDrn.isSome = true ↔ e.engine = .draining

theorem EngineStep.timerFits {b : Banks} {e : CommitEngine} (h : EngineStep c s b e) (hs : s.commit.TimerFits) :
    e.TimerFits := by
  have hoff : s.commit.engine = .idle → s.commit.tDrn.isSome = false := fun hi => by
    simpa [hi] using not_congr hs
  cases h with
  | same => exact hs
  | swapped | ended | reset =>
    simp [CommitEngine.TimerFits, State.swapped, State.endCommit, State.resetWith, CommitEngine.reset]
  | draining => simp [CommitEngine.TimerFits, State.beginDrain]
  | taken m _ hi => simp [CommitEngine.TimerFits, hoff hi]
  | staging b _ _ => exact hs
  | deadline n => exact hs

theorem State.link_pending (s : State) (l : List Instr) (p : Port) : ({ s with pending := l }).link p = s.link p := by
  cases p <;> rfl

theorem State.link_now (s : State) (n : Nat) (p : Port) : ({ s with now := n }).link p = s.link p := by
  cases p <;> rfl

/-- Settles O15: every small change of a port's state empties the queues where it ends in a quiet state, and moves t_TRN
and t_DRN with the state that runs them. -/
theorem stepKeepsQuietPortsEmptyAndTimersFitting : Obligations.StepKeepsQuietPortsEmptyAndTimersFitting := by
  refine ⟨fun s t hs h => ?_, fun s t hs h => ?_⟩
  · exact step_keeps (I := QuietPortsEmpty) (fun s l hs p => by rw [s.link_pending]; exact hs p)
      (fun s n hs p => by rw [s.link_now]; exact hs p) (fun c s t hm hs p => (hm.link p).quietEmpty (hs p)) hs h
  · exact step_keeps (I := TimersFitStates) (fun s l hs => ⟨fun p => by rw [s.link_pending]; exact hs.1 p, hs.2⟩)
      (fun s n hs => ⟨fun p => by rw [s.link_now]; exact hs.1 p, hs.2⟩)
      (fun c s t hm hs => ⟨fun p => (hm.link p).timerFits (hs.1 p), hm.engine.timerFits hs.2⟩) hs h

/-! ## What changes a bank (R45, R76, R78, R91) -/

/-- The active bank and the generation as they were, or swapped with the engine IDLE and the result DONE. -/
def KeptOrSwapped (s : State) (b : Banks) (e : CommitEngine) : Prop :=
  (b.active = s.banks.active ∧ b.generation = s.banks.generation) ∨
    (b.active = s.banks.staging ∧ b.generation = s.banks.generation + 1 ∧ e.engine = .idle ∧
      e.result = { code := .done, first := none, second := none, generation := s.banks.generation + 1 })

/-- The commands whose small changes swap once at most: they take no COMMIT and write no bank otherwise. -/
def OnlySwaps (c : Instr) : Prop :=
  c ≠ .commit ∧ c ≠ .stagingWrite ∧ c ≠ .reseedStaging ∧ ∀ aps mgs, c ≠ .coldReset aps mgs

theorem EngineStep.keptOrSwapped {b : Banks} {e : CommitEngine} (hc : OnlySwaps c) (h : EngineStep c t b e)
    (hst : t.banks.staging = s.banks.staging) (hu : KeptOrSwapped s t.banks t.commit) :
    b.staging = s.banks.staging ∧ KeptOrSwapped s b e := by
  obtain ⟨hcommit, hwrite, hreseed, hcold⟩ := hc
  have busy : t.commit.engine ≠ .idle → t.banks.active = s.banks.active ∧ t.banks.generation = s.banks.generation := by
    intro hne
    rcases hu with h | ⟨_, _, hi, _⟩
    · exact h
    · exact absurd hi hne
  cases h with
  | same => exact ⟨hst, hu⟩
  | swapped hne _ =>
    obtain ⟨-, hg⟩ := busy hne
    exact ⟨hst, .inr ⟨hst, by rw [← hg]; rfl, rfl, by rw [← hg]; rfl⟩⟩
  | ended r hne => exact ⟨hst, .inl (busy hne)⟩
  | draining hne _ => exact ⟨hst, .inl (busy hne)⟩
  | taken m hc _ => exact absurd hc hcommit
  | staging b hc _ => rcases hc with hc | hc; exacts [absurd hc hwrite, absurd hc hreseed]
  | deadline n => exact ⟨hst, hu⟩
  | reset aps mgs hc => exact absurd hc (hcold aps mgs)

theorem exec_keptOrSwapped (hc : OnlySwaps c) (h : exec c s = .next t) :
    t.banks.staging = s.banks.staging ∧ KeptOrSwapped s t.banks t.commit :=
  (exec_evolves (δ := .zero) h).micros.keeps (I := fun u => u.banks.staging = s.banks.staging ∧ KeptOrSwapped s u.banks u.commit)
    (fun _ _ hm hu => hm.engine.keptOrSwapped hc hu.1 hu.2) ⟨rfl, .inl ⟨rfl, rfl⟩⟩

theorem eq_settle_of_settled (h : settled s = .next t) : t = s.settle := (Host.Outcome.next.inj h).symm

/-- The end of an access changes no bank. -/
theorem completeAccess_settle_banks (s : State) (a : Access) (p : Option Packet) :
    (s.completeAccess a p).settle.banks = s.banks := by
  rw [State.settle_banks]
  exact congrArg Backdrop.banks (s.completeAccess_backdrop a p)

theorem endCommand_banks {a : Access} {x : State × CommandReply} (h : endCommand a x = .next t) :
    t.banks = x.1.banks := by
  rw [eq_settle_of_settled h, completeAccess_settle_banks]
  unfold State.recordReply
  split <;> rfl

theorem takeCommit_banks (s : State) (b : Byte) : (s.takeCommit b).1.banks = s.banks := by
  unfold State.takeCommit
  split
  · rfl
  · split <;> rfl

theorem exec_commit_banks (h : exec .commit s = .next t) : t.banks = s.banks := by
  simp only [exec, execCommit] at h
  split at h
  · next a _ => exact (endCommand_banks h).trans (takeCommit_banks s _)
  · cases h; rfl

/-- What a write to the staging bank leaves as it was. -/
structure StagingOnly (s t : State) : Prop where
  active : t.banks.active = s.banks.active
  generation : t.banks.generation = s.banks.generation
  staging : t.banks.staging = s.banks.staging ∨ s.commit.engine = .idle

theorem StagingOnly.of_eq (h : t.banks = s.banks) : StagingOnly s t := ⟨by rw [h], by rw [h], .inl (by rw [h])⟩

theorem writeStaging_stagingOnly (s : State) (r : Reg) (v : Word) : StagingOnly s (s.writeStaging r v).1 := by
  unfold State.writeStaging
  split
  · split
    · exact .of_eq rfl
    · split
      · exact .of_eq rfl
      · next hi => exact ⟨rfl, rfl, .inr (not_not.1 hi)⟩
  · split
    · exact .of_eq rfl
    · next hi => exact ⟨rfl, rfl, .inr (not_not.1 hi)⟩
  · exact .of_eq rfl

theorem exec_stagingWrite_stagingOnly (h : exec .stagingWrite s = .next t) : StagingOnly s t := by
  simp only [exec, execStagingWrite] at h
  split at h
  · next a _ =>
    obtain ⟨hactive, hgen, hst⟩ := writeStaging_stagingOnly s a.reg a.value
    have hb : t.banks = (s.writeStaging a.reg a.value).1.banks := by
      rw [eq_settle_of_settled h, completeAccess_settle_banks]
    exact ⟨by rw [hb, hactive], by rw [hb, hgen], by rw [hb]; exact hst⟩
  · cases h; exact .of_eq rfl

theorem exec_reseedStaging_stagingOnly (h : exec .reseedStaging s = .next t) : StagingOnly s t := by
  simp only [exec, execReseedStaging] at h
  split at h
  · have hb := endCommand_banks h
    unfold State.takeReseed at hb
    split at hb
    · exact .of_eq hb
    · next hi => exact ⟨by rw [hb], by rw [hb], .inr (not_not.1 hi)⟩
  · cases h; exact .of_eq rfl

/-- Settles O39: COMMIT changes no bank, the two writes of the staging bank change that bank in IDLE alone, and every other
command's small changes swap at most once. -/
theorem banksChangeOnlyBySwapOrStagingWrite : Obligations.BanksChangeOnlyBySwapOrStagingWrite := by
  intro c s t h hcold
  have writes : StagingOnly s t → c = .stagingWrite ∨ c = .reseedStaging →
      KeptOrSwapped s t.banks t.commit ∧ (t.banks.staging = s.banks.staging ∨
        (s.commit.engine = .idle ∧ (c = .stagingWrite ∨ c = .reseedStaging))) :=
    fun hw hc => ⟨.inl ⟨hw.active, hw.generation⟩, hw.staging.imp_right fun hi => ⟨hi, hc⟩⟩
  by_cases hcommit : c = .commit
  · subst hcommit
    have hb := exec_commit_banks h
    exact ⟨.inl ⟨by rw [hb], by rw [hb]⟩, .inl (by rw [hb])⟩
  by_cases hwrite : c = .stagingWrite
  · subst hwrite
    exact writes (exec_stagingWrite_stagingOnly h) (.inl rfl)
  by_cases hreseed : c = .reseedStaging
  · subst hreseed
    exact writes (exec_reseedStaging_stagingOnly h) (.inr rfl)
  obtain ⟨hst, hact⟩ := exec_keptOrSwapped ⟨hcommit, hwrite, hreseed, hcold⟩ h
  exact ⟨hact, .inl hst⟩

end Sys2Proof.Machine

/-! PROOFS. Validation of a bank (R81 to R84): each check as a proposition, the first failure in order, and that a bank
that passes is legal; so every bank in force, or waiting for a drain to swap it in, is legal. -/

namespace Sys2Proof.Machine

-- One proof at a time: side by side they take more memory than the check allows.
set_option Elab.async false

/-! ## The checks as propositions -/

/-- A window's own fields break a condition of R82. -/
def Window.Bad (w : Window) : Prop :=
  w.limit.toNat < w.base.toNat ∨ w.destKind = 3 ∨ (w.destKind = 0 ∧ 6 ≤ w.destPort.toNat) ∨
    ((w.destKind = 0 ∨ w.destKind = 1) ∧ 2 ^ 24 ≤ w.translationBase.toNat + (w.limit.toNat - w.base.toNat))

/-- A window names a group that is not valid. -/
def Bank.Unnamed (b : Bank) (w : Window) : Prop := w.destKind = 1 ∧ (b.groups[w.group]).valid = false

/-- A group's own fields break a condition of R83. -/
def Group.Malformed (g : Group) : Prop :=
  (g.memberCount ≠ 2 ∧ g.memberCount ≠ 4) ∨ (∃ i, i < g.memberCount.toNat ∧ 6 ≤ (g.memberAt i).toNat) ∨
    (∃ i j, i < j ∧ j < g.memberCount.toNat ∧ g.memberAt i = g.memberAt j) ∨ g.granuleCode = 3

def Bank.WindowFails (b : Bank) (i : WinIx) : Prop :=
  (b.windows[i]).valid = true ∧ ((b.windows[i]).Bad ∨ b.Unnamed b.windows[i])

def Bank.GroupFails (b : Bank) (i : GroupIx) : Prop := (b.groups[i]).valid = true ∧ (b.groups[i]).Malformed

def Bank.PairFails (b : Bank) (i j : WinIx) : Prop :=
  i < j ∧ (b.windows[i]).valid = true ∧ (b.windows[j]).valid = true ∧ (b.windows[i]).level = (b.windows[j]).level ∧
    (b.windows[i]).base.toNat ≤ (b.windows[j]).limit.toNat ∧ (b.windows[j]).base.toNat ≤ (b.windows[i]).limit.toNat

open Classical in
/-- The check of a valid window: its own fields first, then the group it names. -/
theorem Bank.checkWindow_of_valid {b : Bank} {i : WinIx} (hv : (b.windows[i]).valid = true) :
    b.checkWindow i = if (b.windows[i]).Bad then some ⟨.badWindow, i.val, none⟩
      else if b.Unnamed b.windows[i] then some ⟨.badGroup, (b.windows[i]).group.val, some i.val⟩ else none := by
  simp only [Bank.checkWindow, hv, Window.Bad, Bank.Unnamed, Bool.and_eq_true, Bool.or_eq_true, decide_eq_true_eq,
    Bool.not_eq_true', Bool.not_true]
  grind

/-- The check of one window fails exactly where a condition is broken, with the code of the first one broken. -/
theorem Bank.checkWindow_of_fails {b : Bank} {i : WinIx} [Decidable (b.windows[i]).Bad] (h : b.WindowFails i) :
    b.checkWindow i = if (b.windows[i]).Bad then some ⟨.badWindow, i.val, none⟩
      else some ⟨.badGroup, (b.windows[i]).group.val, some i.val⟩ := by
  rw [checkWindow_of_valid h.1]
  by_cases hb : (b.windows[i]).Bad
  · rw [if_pos hb, if_pos hb]
  · rw [if_neg hb, if_neg hb, if_pos (h.2.resolve_left hb)]

theorem Bank.checkWindow_eq_none {b : Bank} {i : WinIx} : b.checkWindow i = none ↔ ¬ b.WindowFails i := by
  by_cases hv : (b.windows[i]).valid = true
  · rw [checkWindow_of_valid hv, WindowFails]
    split_ifs <;> simp_all
  · have hf : (b.windows[i]).valid = false := by simpa using hv
    exact ⟨fun _ h => hv h.1, fun _ => by unfold Bank.checkWindow; simp only [hf, Bool.not_false, if_true]⟩

/-- The members in use are the first four positions' members, as many as the count says. -/
theorem Group.members_eq_map {g : Group} (h : g.memberCount.toNat ≤ 4) :
    g.members = (List.range g.memberCount.toNat).map g.memberAt := by
  have hall : [g.member0, g.member1, g.member2, g.member3] = (List.range 4).map g.memberAt := rfl
  rw [Group.members, hall, ← List.map_take, List.take_range, Nat.min_eq_left h]

/-- The check of a valid group passes exactly where no condition of R83 is broken. -/
theorem Group.legal_iff (g : Group) : g.legal = true ↔ ¬ g.Malformed := by
  by_cases hc : g.memberCount = 2 ∨ g.memberCount = 4
  · have hle : g.memberCount.toNat ≤ 4 := by rcases hc with h | h <;> simp [h]
    have hnodup : g.members.Nodup ↔ ∀ i j, i < j → j < g.memberCount.toNat → g.memberAt i ≠ g.memberAt j := by
      rw [Group.members_eq_map hle, List.nodup_map_iff_inj_on List.nodup_range]
      simp only [List.mem_range]
      constructor
      · intro h i j hij hj he
        exact absurd (h i (by omega) j hj he) (by omega)
      · intro h i hi j hj he
        by_contra hne
        rcases Nat.lt_or_gt_of_ne hne with hlt | hlt
        · exact h i j hlt hj he
        · exact h j i hlt hi he.symm
    have hnamed : (g.members.all fun m => decide (m.toNat < 6)) = true ↔
        ∀ i, i < g.memberCount.toNat → (g.memberAt i).toNat < 6 := by
      rw [Group.members_eq_map hle]; simp
    simp only [Group.legal, Bool.and_eq_true, decide_eq_true_eq, Bool.or_eq_true, beq_iff_eq, bne_iff_ne, hnodup, hnamed,
      Group.Malformed]
    push Not
    constructor
    · rintro ⟨⟨⟨hcount, hn⟩, hd⟩, hg⟩
      exact ⟨fun h => hcount.resolve_left h, hn, hd, hg⟩
    · rintro ⟨-, hn, hd, hg⟩
      exact ⟨⟨⟨hc, hn⟩, hd⟩, hg⟩
  · have hm : g.Malformed := .inl (not_or.1 hc)
    simp only [hm, not_true, iff_false, Group.legal, Bool.and_eq_true, Bool.or_eq_true, beq_iff_eq]
    exact fun h => hc h.1.1.1

theorem Bank.checkGroup_eq {b : Bank} {i : GroupIx} [Decidable (b.GroupFails i)] :
    b.checkGroup i = if b.GroupFails i then some ⟨.badGroup, i.val, none⟩ else none := by
  have h : ((b.groups[i]).valid && !(b.groups[i]).legal) = true ↔ b.GroupFails i := by
    rw [Bool.and_eq_true, Bool.not_eq_true', ← Bool.not_eq_true, Group.legal_iff, not_not]
    rfl
  exact if_congr h rfl rfl

theorem Bank.checkPair_eq {b : Bank} {i j : WinIx} [Decidable (b.PairFails i j)] :
    b.checkPair i j = if b.PairFails i j then some ⟨.overlap, i.val, some j.val⟩ else none := by
  refine if_congr ?_ rfl rfl
  simp only [Bool.and_eq_true, decide_eq_true_eq, beq_iff_eq, and_assoc]
  rfl

/-! ## The first failure in order -/

/-- A search of a sorted list finds the value at the first place that has one. -/
theorem findSome?_of_first {ι α : Type} [LinearOrder ι] {f : ι → Option α} {i : ι} {x : α} (hi : f i = some x)
    (hlt : ∀ j, j < i → f j = none) : ∀ l : List ι, l.Pairwise (· < ·) → i ∈ l → l.findSome? f = some x
  | [], _, h => absurd h (by simp)
  | a :: l, hp, h => by
    obtain ⟨hal, hp⟩ := List.pairwise_cons.1 hp
    rcases List.mem_cons.1 h with rfl | hm
    · simp [hi]
    · rw [List.findSome?_cons, hlt a (hal i hm)]
      exact findSome?_of_first hi hlt l hp hm

theorem findSome?_finRange_of_first {n : Nat} {α : Type} {f : Fin n → Option α} {i : Fin n} {x : α} (hi : f i = some x)
    (hlt : ∀ j, j < i → f j = none) : (List.finRange n).findSome? f = some x :=
  findSome?_of_first hi hlt _ (List.pairwise_lt_finRange n) (List.mem_finRange i)

theorem findSome?_finRange_eq_none {n : Nat} {α : Type} {f : Fin n → Option α} :
    (List.finRange n).findSome? f = none ↔ ∀ i, f i = none := by
  simp [List.findSome?_eq_none_iff]

theorem Bank.validate_of_window {b : Bank} {i : WinIx} {x : ValidationFailure} (hi : b.checkWindow i = some x)
    (hlt : ∀ j, j < i → ¬ b.WindowFails j) : b.validate = some x := by
  unfold Bank.validate
  rw [findSome?_finRange_of_first hi fun j hj => checkWindow_eq_none.2 (hlt j hj)]
  rfl

theorem Bank.validate_of_windows_pass {b : Bank} (hw : ∀ i, ¬ b.WindowFails i) :
    b.validate = ((List.finRange 4).findSome? b.checkGroup <|>
      (List.finRange 32).findSome? fun i => (List.finRange 32).findSome? fun j => b.checkPair i j) := by
  unfold Bank.validate
  rw [findSome?_finRange_eq_none.2 fun i => checkWindow_eq_none.2 (hw i)]
  rfl

theorem Bank.validate_of_group {b : Bank} {i : GroupIx} (hw : ∀ i, ¬ b.WindowFails i) (hi : b.GroupFails i)
    (hlt : ∀ j, j < i → ¬ b.GroupFails j) : b.validate = some ⟨.badGroup, i.val, none⟩ := by
  classical
  rw [validate_of_windows_pass hw, findSome?_finRange_of_first (x := ⟨.badGroup, i.val, none⟩)
    (by rw [checkGroup_eq, if_pos hi]) fun j hj => by rw [checkGroup_eq, if_neg (hlt j hj)]]
  rfl

theorem Bank.validate_of_records_pass {b : Bank} (hw : ∀ i, ¬ b.WindowFails i) (hg : ∀ i, ¬ b.GroupFails i) :
    b.validate = (List.finRange 32).findSome? fun i => (List.finRange 32).findSome? fun j => b.checkPair i j := by
  classical
  rw [validate_of_windows_pass hw, findSome?_finRange_eq_none.2 fun i => by rw [checkGroup_eq, if_neg (hg i)]]
  rfl

theorem Bank.validate_of_pair {b : Bank} {i j : WinIx} (hw : ∀ i, ¬ b.WindowFails i) (hg : ∀ i, ¬ b.GroupFails i)
    (hij : b.PairFails i j) (hlt : ∀ k l, b.PairFails k l → i < k ∨ (i = k ∧ j ≤ l)) :
    b.validate = some ⟨.overlap, i.val, some j.val⟩ := by
  classical
  rw [validate_of_records_pass hw hg]
  refine findSome?_finRange_of_first (i := i) (findSome?_finRange_of_first (i := j) ?_ fun l hl => ?_) fun k hk =>
    findSome?_finRange_eq_none.2 fun l => ?_
  · rw [checkPair_eq, if_pos hij]
  · rw [checkPair_eq, if_neg fun h => ?_]
    rcases hlt i l h with h | ⟨-, h⟩
    · exact lt_irrefl i h
    · exact absurd hl (not_lt.2 h)
  · rw [checkPair_eq, if_neg fun h => ?_]
    rcases hlt k l h with h | ⟨h, -⟩
    · exact lt_asymm h hk
    · exact absurd hk (h ▸ lt_irrefl i)

theorem Bank.validate_eq_none_iff {b : Bank} : b.validate = none ↔
    (∀ i, ¬ b.WindowFails i) ∧ (∀ i, ¬ b.GroupFails i) ∧ ∀ i j, ¬ b.PairFails i j := by
  classical
  have orElse_none : ∀ x y : Option ValidationFailure, (x <|> y) = none ↔ x = none ∧ y = none := by
    intro x y
    cases x <;> simp
  unfold Bank.validate
  simp only [orElse_none, findSome?_finRange_eq_none, checkWindow_eq_none]
  refine and_congr_right' (and_congr (forall_congr' fun i => ?_) (forall_congr' fun i => forall_congr' fun j => ?_))
  · rw [checkGroup_eq]; simp
  · rw [checkPair_eq]; simp

/-! ## A bank that passes is legal -/

theorem windowLegal_iff (b : Bank) (w : Window) : WindowLegal b w ↔ ¬ (w.Bad ∨ b.Unnamed w) := by
  simp only [Window.Bad, Bank.Unnamed]
  push Not
  constructor
  · rintro ⟨h1, h2, h3, h4, h5⟩
    exact ⟨⟨h1, h2, h3, h4⟩, fun h => by rw [h5 h]; decide⟩
  · rintro ⟨⟨h1, h2, h3, h4⟩, h5⟩
    exact ⟨h1, h2, h3, h4, fun h => by simpa using h5 h⟩

theorem groupLegal_iff (g : Group) : GroupLegal g ↔ ¬ g.Malformed := by
  simp only [Group.Malformed]
  push Not
  constructor
  · rintro ⟨h1, h2, h3, h4⟩
    exact ⟨fun h => h1.resolve_left h, h2, h3, h4⟩
  · rintro ⟨h1, h2, h3, h4⟩
    exact ⟨or_iff_not_imp_left.2 h1, h2, h3, h4⟩

theorem Window.holds_iff (w : Window) (k : Block) :
    w.holds k = true ↔ w.valid = true ∧ w.base.toNat ≤ k.toNat ∧ k.toNat ≤ w.limit.toNat := by
  simp [Window.holds, and_assoc]

/-- Two valid windows share a block exactly where each one's base is at most the other's limit. -/
theorem Window.share_iff {v w : Window} (hv : v.base.toNat ≤ v.limit.toNat) (hw : w.base.toNat ≤ w.limit.toNat) :
    (∃ k : Block, v.holds k = true ∧ w.holds k = true) ↔
      v.valid = true ∧ w.valid = true ∧ v.base.toNat ≤ w.limit.toNat ∧ w.base.toNat ≤ v.limit.toNat := by
  simp only [Window.holds_iff]
  constructor
  · rintro ⟨k, ⟨h1, h2, h3⟩, h4, h5, h6⟩
    exact ⟨h1, h4, h2.trans h6, h5.trans h3⟩
  · rintro ⟨h1, h2, h3, h4⟩
    rcases le_total v.base.toNat w.base.toNat with h | h
    · exact ⟨w.base, ⟨h1, h, h4⟩, h2, le_rfl, hw⟩
    · exact ⟨v.base, ⟨h1, le_rfl, hv⟩, h2, h, h3⟩

theorem bankLegal_iff (b : Bank) : BankLegal b ↔
    (∀ i, ¬ b.WindowFails i) ∧ (∀ i, ¬ b.GroupFails i) ∧ ∀ i j, ¬ b.PairFails i j := by
  constructor
  · rintro ⟨hw, hg, ha⟩
    refine ⟨fun i h => (windowLegal_iff b _).1 (hw i h.1) h.2, fun i h => (groupLegal_iff _).1 (hg i h.1) h.2, ?_⟩
    rintro i j ⟨hij, hvi, hvj, hl, h1, h2⟩
    obtain ⟨k, hk⟩ := (Window.share_iff (hw i hvi).range (hw j hvj).range).2 ⟨hvi, hvj, h1, h2⟩
    exact ha i j (ne_of_lt hij) hl k hk
  · rintro ⟨hw, hg, ha⟩
    have legal : ∀ i : WinIx, (b.windows[i]).valid = true → WindowLegal b b.windows[i] := fun i hv =>
      (windowLegal_iff b _).2 fun h => hw i ⟨hv, h⟩
    refine ⟨legal, fun i hv => (groupLegal_iff _).2 fun h => hg i ⟨hv, h⟩, fun i j hij hl k hk => ?_⟩
    have hvi := ((Window.holds_iff _ _).1 hk.1).1
    have hvj := ((Window.holds_iff _ _).1 hk.2).1
    obtain ⟨-, -, h1, h2⟩ := (Window.share_iff (legal i hvi).range (legal j hvj).range).1 ⟨k, hk⟩
    rcases lt_or_gt_of_ne hij with h | h
    · exact ha i j ⟨h, hvi, hvj, hl, h1, h2⟩
    · exact ha j i ⟨h, hvj, hvi, hl.symm, h2, h1⟩

theorem Bank.validate_eq_none_iff_legal {b : Bank} : b.validate = none ↔ BankLegal b :=
  validate_eq_none_iff.trans (bankLegal_iff b).symm

/-- Settles O38: the three searches of `Bank.validate` stop at the first window, group or pair that fails, and find none
exactly in a legal bank. -/
theorem validationAnswersTheFirstFailure : Obligations.ValidationAnswersTheFirstFailure := by
  intro b
  refine ⟨fun i hi hlt => ?_, fun i hw hi hlt => b.validate_of_group hw hi hlt,
    fun i j hw hg hij hlt => b.validate_of_pair hw hg hij hlt, b.validate_eq_none_iff_legal⟩
  classical
  by_cases hb : (b.windows[i]).Bad
  · exact (Bank.validate_of_window ((Bank.checkWindow_of_fails hi).trans (if_pos hb)) hlt).trans (if_pos hb).symm
  · exact (Bank.validate_of_window ((Bank.checkWindow_of_fails hi).trans (if_neg hb)) hlt).trans (if_neg hb).symm

/-! ## The bank in force (R47, R66) -/

/-- A bank without valid records is legal. -/
theorem bankLegal_reset : BankLegal Bank.reset := by
  have hw : ∀ i : WinIx, (Bank.reset.windows[i]).valid = false := fun i => by simp [Bank.reset]
  have hg : ∀ i : GroupIx, (Bank.reset.groups[i]).valid = false := fun i => by simp [Bank.reset]
  refine (bankLegal_iff _).2 ⟨fun i h => ?_, fun i h => ?_, fun i j h => ?_⟩
  · exact absurd (h.1.symm.trans (hw i)) (by decide)
  · exact absurd (h.1.symm.trans (hg i)) (by decide)
  · exact absurd (h.2.1.symm.trans (hw i)) (by decide)

/-- A bank is swapped in, or waits for its swap, only after it passed validation. -/
theorem EngineStep.banksLegal {c : Instr} {s : State} {b : Banks} {e : CommitEngine} (h : EngineStep c s b e)
    (hs : BanksLegal s) : BankLegal b.active ∧ (e.engine = .draining → BankLegal b.staging) := by
  obtain ⟨hactive, hstaging⟩ := hs
  cases h with
  | same => exact ⟨hactive, hstaging⟩
  | swapped _ hv =>
    refine ⟨?_, fun h => absurd h (by simp [State.swapped, State.endCommit])⟩
    by_cases hd : s.commit.engine = .draining
    · exact hstaging hd
    · exact Bank.validate_eq_none_iff_legal.1 (hv hd)
  | ended r _ => exact ⟨hactive, fun h => absurd h (by simp [State.endCommit])⟩
  | draining _ hv => exact ⟨hactive, fun _ => Bank.validate_eq_none_iff_legal.1 hv⟩
  | taken m _ _ => exact ⟨hactive, fun h => absurd h (by simp)⟩
  | staging x _ hi => exact ⟨hactive, fun h => absurd (hi.symm.trans h) (by decide)⟩
  | deadline n => exact ⟨hactive, hstaging⟩
  | reset aps mgs _ => exact ⟨bankLegal_reset, fun _ => bankLegal_reset⟩

/-- Settles O37: the swap takes over a bank that validation passed, at once or before the drain began, and no write
reaches the staging bank while the drain lasts. -/
theorem stepKeepsTheActiveBankValid : Obligations.StepKeepsTheActiveBankValid := fun _ _ hs h =>
  step_keeps (I := BanksLegal) (fun _ _ hs => ⟨hs.active, hs.staging⟩) (fun _ _ hs => ⟨hs.active, hs.staging⟩)
    (fun _ _ _ hm hs => ⟨(hm.engine.banksLegal hs).1, (hm.engine.banksLegal hs).2⟩) hs h

end Sys2Proof.Machine

/-! PROOFS. The ORT: what a small change does to the entries, that their fields fit their states, and that the host tags
of a host's live entries are distinct. -/

namespace Sys2Proof.Machine

-- One proof at a time: side by side they take more memory than the check allows.
set_option Elab.async false

variable {c : Instr} {s t : State}

/-- What a small change does to the ORT: a change of the entries each for itself, an allocation, or a cold reset. -/
inductive OrtStep (k : Tracker) : Vector Entry 128 → Prop
  | each (ort : Vector Entry 128) : (∀ e : EntryIx, EntryStep k.ort[e] ort[e]) → OrtStep k ort
  | allocated (h : HPort) (p : Packet) (x : Admitted) (y : EntryKind) (e : EntryIx) (m : Option Nat) :
      (y ≠ .writeConverted → k.tagHolder h p.tag = none) → (k.ort[e]).state = .free →
      OrtStep k (k.ort.set e ((k.ort[e]).allocated h p x y m))
  | reset : OrtStep k Tracker.reset.ort

theorem OrtStep.of_eq {k : Tracker} {ort : Vector Entry 128} (h : ort = k.ort) : OrtStep k ort :=
  .each ort fun e => by rw [h]; exact .same

theorem SettingWrite.ort (h : SettingWrite s t) : t.tracker.ort = s.tracker.ort := by cases h <;> rfl

theorem Micro.ort (h : Micro c s t) : OrtStep s.tracker t.tracker.ort := by
  cases h with
  | calm hc => exact .of_eq hc.still.ort
  | state p u _ => cases p <;> exact .of_eq rfl
  | entries ort he => exact .each ort he
  | allocate h p x k e m htag _ hfree => exact .allocated h p x k e m htag hfree
  | write _ hw => exact .of_eq hw.ort
  | warm =>
    have hw : s.warmCommit.tracker = s.tracker := by unfold State.warmCommit; split <;> rfl
    refine .each _ fun e => ?_
    simp only [State.warm, Tracker.warm, Fin.getElem_fin, Vector.getElem_ofFn, hw]
    exact .freed
  | cold => exact .reset
  | time | swap | endCommit | beginDrain | takeCommit | staging | pop | release => exact .of_eq rfl

/-! ## The fields of an entry (R123 to R126) -/

theorem Entry.inFlight_iff (e : Entry) : e.inFlight = true ↔ e.state = .waiting ∨ e.state = .receiving := by
  simp [Entry.inFlight]

/-- An entry in flight shows no quarantine. -/
theorem EntryFits.quarantine_of_inFlight {e : Entry} (h : EntryFits e) (hf : e.inFlight = true) :
    e.quarantine.isSome = true ↔ False :=
  h.quarantine.trans <| iff_false_intro fun hq => by simp [Entry.inFlight, hq] at hf

theorem entryFits_freed {e : Entry} (h : EntryFits e) : EntryFits e.freed where
  deadline hd := absurd hd (by simp [Entry.freed])
  quarantine := by simp [Entry.freed]
  waiting hw := absurd hw (by simp [Entry.freed])
  receiving hr := absurd hr (by simp [Entry.freed])
  quarantinedSent hq := absurd hq (by simp [Entry.freed])
  absorbed := h.absorbed

theorem entryFits_allocated (e : Entry) (h : HPort) (p : Packet) (x : Admitted) (k : EntryKind) (m : Option Nat) :
    EntryFits (e.allocated h p x k m) where
  deadline _ := .inl rfl
  quarantine := by simp [Entry.allocated]
  waiting _ := rfl
  receiving hr := absurd hr (by simp [Entry.allocated])
  quarantinedSent hq := absurd hq (by simp [Entry.allocated])
  absorbed := by simp [Entry.allocated]

theorem EntryStep.fits {e f : Entry} (h : EntryStep e f) (he : EntryFits e) : EntryFits f := by
  cases h with
  | same => exact he
  | marked hw =>
    exact ⟨fun _ => .inl (by simp [Entry.inFlight, hw]), he.quarantine, he.waiting,
      fun hr => absurd (hw.symm.trans hr) (by decide), fun _ => rfl, he.absorbed⟩
  | orphaned hf => exact ⟨he.deadline, he.quarantine, he.waiting, he.receiving, he.quarantinedSent, he.absorbed⟩
  | freed => exact entryFits_freed he
  | delivered n =>
    obtain ⟨hd, hq, -, hr, hs, ha⟩ := entryFits_freed he
    exact ⟨hd, hq, fun hw => absurd hw (by simp [Entry.freed]), fun hw => absurd hw (by simp [Entry.freed]), hs, ha⟩
  | expired hf hu =>
    exact ⟨fun _ => .inr ⟨rfl, hu⟩, (he.quarantine_of_inFlight hf).trans (by simp), fun hw => absurd hw (by simp),
      fun hw => absurd hw (by simp), fun hw => absurd hw (by simp), he.absorbed⟩
  | quarantined m hf hs =>
    exact ⟨fun hd => absurd hd (by simp [Entry.quarantinedUntil]), by simp [Entry.quarantinedUntil],
      fun hw => absurd hw (by simp [Entry.quarantinedUntil]), fun hw => absurd hw (by simp [Entry.quarantinedUntil]),
      fun _ => hs, he.absorbed⟩
  | progress n hf hs hk hn hlt =>
    exact ⟨fun _ => .inl rfl, (he.quarantine_of_inFlight hf).trans (by simp), fun hw => absurd hw (by simp),
      fun _ => ⟨hk, hs, by simp; omega, hlt⟩, fun hw => absurd hw (by simp), he.absorbed⟩

/-- What holds of every entry is kept by a step of the ORT that keeps it of each entry. -/
theorem OrtStep.forall_entry {k : Tracker} {ort : Vector Entry 128} {P : Entry → Prop} (h : OrtStep k ort)
    (hstep : ∀ x y, EntryStep x y → P x → P y) (hnew : ∀ x h p a y m, P (Entry.allocated x h p a y m)) (hempty : P {})
    (hk : ∀ e : EntryIx, P k.ort[e]) (e : EntryIx) : P ort[e] := by
  cases h with
  | each ort he => exact hstep _ _ (he e) (hk e)
  | allocated h p x y f m _ _ =>
    by_cases hef : e = f
    · subst hef; simpa using hnew _ _ _ _ _ _
    · have : f.val ≠ e.val := fun hv => hef (Fin.ext hv.symm)
      simpa [Vector.getElem_set_ne, this] using hk e
  | reset => simpa [Tracker.reset] using hempty

/-- Settles O32: each small change leaves the fields of the entry it concerns fitting, and allocation sets them all. -/
theorem stepKeepsEntriesFitting : Obligations.StepKeepsEntriesFitting := fun _ _ hs h =>
  step_keeps (I := EntriesFit) (fun _ _ h => h) (fun _ _ h => h)
    (fun _ _ _ hm h => hm.ort.forall_entry (fun _ _ hs => hs.fits) entryFits_allocated (by constructor <;> simp) h) hs h

/-! ## Host tags (R130) -/

/-- What an entry's own change does to the host-tag map: an entry mapped after it was mapped under the same pair. -/
theorem EntryStep.mapped {e f : Entry} (h : EntryStep e f) (hf : f.mapped = true) :
    e.mapped = true ∧ f.host = e.host ∧ f.hostTag = e.hostTag := by
  cases h with
  | same | marked => exact ⟨hf, rfl, rfl⟩
  | orphaned | freed | delivered | expired | quarantined =>
    simp [Entry.mapped, Entry.inFlight, Entry.freed, Entry.quarantinedUntil] at hf
  | progress n hin _ _ _ _ => 
    refine ⟨?_, rfl, rfl⟩
    simp only [Entry.mapped, Bool.and_eq_true] at hf ⊢
    exact ⟨⟨hin, hf.1.2⟩, hf.2⟩

theorem Tracker.tagHolder_eq_none_iff (k : Tracker) (h : HPort) (g : Byte) : k.tagHolder h g = none ↔
    ∀ e : EntryIx, (k.ort[e]).mapped = true → (k.ort[e]).host = h → (k.ort[e]).hostTag ≠ g := by
  simp [Tracker.tagHolder, List.find?_eq_none]

/-- Host tags unique in an ORT. -/
def TagsUnique (ort : Vector Entry 128) : Prop :=
  ∀ e f : EntryIx, (ort[e]).mapped = true → (ort[f]).mapped = true →
    (ort[e]).host = (ort[f]).host → (ort[e]).hostTag = (ort[f]).hostTag → e = f

theorem OrtStep.tagsUnique {k : Tracker} {ort : Vector Entry 128} (h : OrtStep k ort) (hk : TagsUnique k.ort) :
    TagsUnique ort := by
  cases h with
  | each ort he =>
    intro e f hme hmf hh ht
    obtain ⟨he1, he2, he3⟩ := (he e).mapped hme
    obtain ⟨hf1, hf2, hf3⟩ := (he f).mapped hmf
    exact hk e f he1 hf1 (by rw [← he2, ← hf2, hh]) (by rw [← he3, ← hf3, ht])
  | allocated h p x y i m htag hfree =>
    have hself : (k.ort.set i ((k.ort[i]).allocated h p x y m))[i] = (k.ort[i]).allocated h p x y m := by simp
    have hother : ∀ e : EntryIx, e ≠ i → (k.ort.set i ((k.ort[i]).allocated h p x y m))[e] = k.ort[e] := fun e hei => by
      have : i.val ≠ e.val := fun hv => hei (Fin.ext hv.symm)
      simp [Vector.getElem_set_ne, this]
    have apart : ∀ e : EntryIx, e ≠ i → (k.ort[e]).mapped = true →
        ((k.ort[i]).allocated h p x y m).mapped = true → (k.ort[e]).host = h →
        (k.ort[e]).hostTag ≠ ((k.ort[i]).allocated h p x y m).hostTag := by
      intro e _ hme hmi hh
      have hy : y ≠ .writeConverted := by rintro rfl; simp [Entry.mapped, Entry.allocated] at hmi
      have : ((k.ort[i]).allocated h p x y m).hostTag = p.tag := if_neg hy
      rw [this]
      exact (Tracker.tagHolder_eq_none_iff k h p.tag).1 (htag hy) e hme hh
    intro e f hme hmf hh ht
    by_cases he : e = i <;> by_cases hf : f = i
    · rw [he, hf]
    · subst he
      rw [hself] at hme hh ht
      rw [hother f hf] at hmf hh ht
      exact absurd ht.symm (apart f hf hmf hme hh.symm)
    · subst hf
      rw [hself] at hmf hh ht
      rw [hother e he] at hme hh ht
      exact absurd ht (apart e he hme hmf hh)
    · rw [hother e he] at hme hh ht
      rw [hother f hf] at hmf hh ht
      exact hk e f hme hmf hh ht
  | reset =>
    intro e f hme
    simp [Tracker.reset, Entry.mapped, Entry.inFlight] at hme

/-- Settles O31: an entry's own change never puts a pair into the host-tag map, and an allocation only one that no entry
holds. -/
theorem stepKeepsHostTagsUnique : Obligations.StepKeepsHostTagsUnique := fun _ _ hs h =>
  step_keeps (I := HostTagsUnique) (fun _ _ h => h) (fun _ _ h => h) (fun _ _ _ hm h => hm.ort.tagsUnique h) hs h

end Sys2Proof.Machine

/-! PROOFS. The invariants that a command may break while it runs and restores before it ends: entries aimed at targets
in UP, a drain at work, answer lists within their capacity. -/

namespace Sys2Proof.Machine

-- One proof at a time: side by side they take more memory than the check allows.
set_option Elab.async false

/-- What a chain that owes nothing at its end keeps, a step keeps. -/
theorem step_keeps_of_evolves {I : State → Prop} (hqueue : ∀ s l, I s → I { s with pending := l })
    (hnow : ∀ s n, I s → I { s with now := n }) (hI : ∀ c s t, Evolves c .zero .zero s t → I s → I t) {s t : State}
    (hs : I s) (h : step s = .next t) : I t := by
  rcases step_evolves h with ⟨c, rest, -, he⟩ | rfl
  · exact hI c _ _ he (hqueue s rest hs)
  · exact hnow s _ hs

theorem Debt.aimed_zero_iff (s : State) : Debt.zero.Aimed s ↔ EntriesAimAtUpTargets s :=
  forall_congr' fun _ => imp_congr_right fun _ => or_iff_left id

theorem Debt.works_zero_iff (s : State) : Debt.zero.Works s ↔ DrainHasWork s := Iff.rfl

theorem answerListsBounded_iff (s : State) : AnswerListsBounded s ↔ ∀ h, s.tracker.load h ≤ 134 := by
  refine forall_congr' fun h => ?_
  unfold Tracker.load Tracker.owing
  omega

/-- Settles O30: an admission rests on a target in UP, and a port that leaves UP frees the entries aimed at it before the
command ends. -/
theorem stepKeepsEntriesAimedAtUpTargets : Obligations.StepKeepsEntriesAimedAtUpTargets := fun _ _ hs h =>
  step_keeps_of_evolves (I := EntriesAimAtUpTargets) (fun _ _ h => h) (fun _ _ h => h)
    (fun _ _ _ he h => (Debt.aimed_zero_iff _).1 (he.aimed ((Debt.aimed_zero_iff _).2 h))) hs h

/-- Settles O33: whatever takes the last entry out of flight owes the drain's check, and makes it before it ends. -/
theorem stepKeepsTheDrainWaiting : Obligations.StepKeepsTheDrainWaiting := fun _ _ hs h =>
  step_keeps_of_evolves (I := DrainHasWork) (fun _ _ h => h) (fun _ _ h => h)
    (fun _ _ _ he h => (Debt.works_zero_iff _).1 (he.works ((Debt.works_zero_iff _).2 h))) hs h

/-- Settles O34: an answer is appended only for an entry that leaves flight in the same event, and an admission leaves
room for its answer. -/
theorem stepKeepsAnswerListsBounded : Obligations.StepKeepsAnswerListsBounded := fun _ _ hs h =>
  step_keeps_of_evolves (I := AnswerListsBounded) (fun _ _ h => h) (fun _ _ h => h)
    (fun _ _ _ he h => (answerListsBounded_iff _).2 (he.load ((answerListsBounded_iff _).1 h))) hs h

end Sys2Proof.Machine

/-! PROOFS. The head conditions, and the accesses that begin. -/

namespace Sys2Proof.Machine

-- One proof at a time: side by side they take more memory than the check allows.
set_option Elab.async false

variable {s t : State}

theorem QuietPortsEmpty.hostQuiet (h : QuietPortsEmpty s) (k : HPort) : HostQuiet s k := fun h1 h2 => (h (.host k) h1 h2).1

/-- What the head conditions rest on, with nothing owed. -/
theorem Debt.frontFits_zero_iff : Debt.zero.FrontFits s ↔ HeadsFit s ∧ UnitFits s ∧ ∀ h, HostQuiet s h :=
  ⟨fun h => ⟨fun k => (h.heads k).resolve_left id, h.unit, h.quiet⟩, fun ⟨h1, h2, h3⟩ => ⟨⟨fun k => .inr (h1 k), h3⟩, h2⟩⟩

/-- Settles O23: a head taken, waiting or HELD stands on an UP port; whatever moves the port, its queue or the unit sets
the head anew before the command ends. -/
theorem stepKeepsHeadConditionsFitting : Obligations.StepKeepsHeadConditionsFitting := by
  intro s t hh hu hq h
  have hs : Debt.zero.FrontFits s := Debt.frontFits_zero_iff.2 ⟨hh, hu, hq.hostQuiet⟩
  have ht := step_keeps_of_evolves (I := Debt.zero.FrontFits)
    (fun u _ hs => SameFront.fits (s := u) ⟨fun _ => rfl, fun _ => rfl, rfl, rfl, rfl, rfl⟩ hs)
    (fun u _ hs => SameFront.fits (s := u) ⟨fun _ => rfl, fun _ => rfl, rfl, rfl, rfl, rfl⟩ hs)
    (fun _ _ _ he => he.front) hs h
  obtain ⟨h1, h2, -⟩ := Debt.frontFits_zero_iff.1 ht
  exact ⟨h1, h2⟩

/-- The passes begin no access but one that may begin. -/
theorem settle_accessFits {u : State} (hu : u.mgmt.unit = .free) : AccessFits (fun _ => False) u.settle :=
  (u.settle_evolves (c := .notificationSend) (δ := .zero)).access rfl _ fun a ha => by rw [hu] at ha; cases ha

theorem endWrite_accessFits {a : Access} {x : State × WriteOutcome} (h : endWrite a x = .next t) :
    AccessFits (fun _ => False) t := by
  rw [eq_settle_of_settled h]
  exact settle_accessFits (State.freeUnit_unit _ _)

/-- A register write ends its access, so that the passes after it find the unit FREE; or it is not the command that the
access executes, and changes nothing. -/
theorem write_accessFits {c : Instr} {s t : State} {f : Access → State × WriteOutcome}
    (h : (match s.accessFor c with
      | some a => endWrite a (f a)
      | none => Host.Outcome.next s : Result) = .next t) : AccessFits (s.mgmt.unit = .accessing ·) t := by
  cases hx : s.accessFor c with
  | some a =>
    rw [hx] at h
    exact fun b hb => .inr ((endWrite_accessFits h b hb).resolve_left id)
  | none =>
    rw [hx] at h
    cases h
    exact fun b hb => .inl hb

/-- Every command leaves the unit at the access it had, or begins one that may begin. -/
theorem exec_accessFits {c : Instr} (h : exec c s = .next t) : AccessFits (s.mgmt.unit = .accessing ·) t := by
  by_cases hc : c.writesSettings = false
  · exact (exec_evolves (δ := .zero) h).access hc _ fun a ha => .inl ha
  · cases c with
    | coldReset aps mgs => cases h; exact fun a ha => by cases ha
    | channelEnableWrite | supervisorPortWrite | apertureBaseWrite | grantSetWrite | portConfigWrite | faultClassWrite
      | settingWrite => exact write_accessFits h
    | _ => exact absurd rfl hc

/-- Settles O24: an access begins only in a pass, for a head that was diverted there under the grant and the aperture base
then in force, which no pass changes. -/
theorem onlyGrantedRequestsReachTheUnit : Obligations.OnlyGrantedRequestsReachTheUnit := by
  intro s t a h ha hs
  unfold step at h
  split at h
  · cases h
    exact absurd ha hs
  · exact (exec_accessFits h a ha).resolve_left hs

end Sys2Proof.Machine

/-! PROOFS. The passes: they take a port only from UP to ISOLATED, and only that makes a pass owe another. -/

namespace Sys2Proof.Machine

-- One proof at a time: side by side they take more memory than the check allows.
set_option Elab.async false

variable {s t u : State}

/-! ## What a report and a send leave alone -/

/-- The states differ at most in host ports, recorder and notification unit. -/
def OnlyReports (s t : State) : Prop := t = { s with hosts := t.hosts, recorder := t.recorder, notifier := t.notifier }

theorem OnlyReports.refl (s : State) : OnlyReports s s := rfl

theorem OnlyReports.trans (h : OnlyReports s t) (k : OnlyReports t u) : OnlyReports s u := by
  unfold OnlyReports at *
  rw [k, h]

theorem OnlyReports.admission (h : OnlyReports s t) : t.admission = s.admission := by rw [h]
theorem OnlyReports.tracker (h : OnlyReports s t) : t.tracker = s.tracker := by rw [h]
theorem OnlyReports.targets (h : OnlyReports s t) : t.targets = s.targets := by rw [h]
theorem OnlyReports.mgmt (h : OnlyReports s t) : t.mgmt = s.mgmt := by rw [h]

theorem State.sendNotification_onlyReports (s : State) : OnlyReports s s.sendNotification := by
  unfold State.sendNotification
  split
  · split <;> rfl
  · rfl

theorem State.appendItem_onlyReports (s : State) (i : PendingItem) : OnlyReports s (s.appendItem i) :=
  OnlyReports.trans (t := { s with notifier := { s.notifier with items := s.notifier.items ++ [i] } }) rfl
    (State.sendNotification_onlyReports _)

theorem State.notice_onlyReports (s : State) (k : FaultKind) (p : Port) (q : Seq) : OnlyReports s (s.notice k p q) := by
  unfold State.notice
  split
  · exact s.appendItem_onlyReports _
  · rfl

theorem State.snapAndNotice_onlyReports (s : State) (f : FaultRecord) (c : Option HeaderCapture) :
    OnlyReports s (s.snapAndNotice f c) :=
  OnlyReports.trans (t := { s with recorder := s.recorder.snap f c }) rfl (State.notice_onlyReports _ _ _ _)

theorem State.takeReport_onlyReports (s : State) (r : Report) : OnlyReports (s.isolatedBy r) (s.takeReport r) := by
  unfold State.takeReport
  simp only
  change OnlyReports (s.isolatedBy r) (match s.classOf r.kind with
    | .ignore => s.isolatedBy r
    | .record => (s.isolatedBy r).queueRecord (s.formRecord r (s.reportOutcome r))
    | .notify => ((s.isolatedBy r).queueRecord (s.formRecord r (s.reportOutcome r))).snapAndNotice
        (s.formRecord r (s.reportOutcome r)) r.capture
    | .isolate => ((s.isolatedBy r).queueRecord (s.formRecord r (s.reportOutcome r))).snapAndNotice
        (s.formRecord r (s.reportOutcome r)) r.capture)
  have hqueue : ∀ f, OnlyReports (s.isolatedBy r) ((s.isolatedBy r).queueRecord f) := fun _ => rfl
  cases s.classOf r.kind with
  | ignore => rfl
  | record => exact hqueue _
  | notify => exact (hqueue _).trans (State.snapAndNotice_onlyReports _ _ _)
  | isolate => exact (hqueue _).trans (State.snapAndNotice_onlyReports _ _ _)

/-! ## Retreats -/

/-- A port unit that carries no packets and holds none. -/
def PortUnit.Idle (u : PortUnit) : Prop := u.state.carries = false ∧ u.ingress = [] ∧ u.egress = []

theorem QueueStep.eq_of_idle {cap : Nat} {u v : PortUnit} (h : QueueStep cap u v) (hu : u.Idle) : v = u := by
  obtain ⟨hc, hi, he⟩ := hu
  cases h with
  | same => rfl
  | pop => rw [hi, List.tail_nil, ← hi]
  | arrive x hc' _ => rw [hc] at hc'; cases hc'
  | place x hc' _ => rw [hc] at hc'; cases hc'
  | depart l hl =>
    rw [he, List.sublist_nil] at hl
    rw [hl, ← he]

/-- Calm changes leave an idle port alone. -/
theorem Calm.link_of_idle {g m : Prop} (h : Calm g m s t) {p : Port} (hp : (s.link p).Idle) : t.link p = s.link p := by
  cases h with
  | ports hs ts h1 h2 _ =>
    cases p with
    | host k => exact (h1 k).1.eq_of_idle hp
    | target d => exact (h2 d).1.eq_of_idle hp
  | admission | mgmt | lists | enqueued | snapped | notifier => rfl

theorem Calms.link_of_idle {g m : Prop} (h : Calms g m s t) {p : Port} (hp : (s.link p).Idle) : t.link p = s.link p := by
  induction h with
  | refl => rfl
  | tail _ hm ih => exact (hm.link_of_idle (ih.symm ▸ hp)).trans ih

/-- A port's leaving UP leaves every other idle port alone. -/
theorem State.leavesUp_link_of_idle (s : State) {p q : Port} (l : LinkState) (hq : q ≠ p) (hi : (s.link q).Idle) :
    (s.leavesUp p l).link q = s.link q := by
  cases p with
  | host h =>
    obtain ⟨u, v, h1, rfl, h2⟩ := s.hostLeavesUp_chain h l
    have hset := State.link_setLink_of_ne s hq fun x => { x.emptied with state := l }
    have hu := (h1.link_of_idle (hset ▸ hi)).trans hset
    have ho : (u.orphan h).link q = u.link q := by cases q <;> simp only [State.link, State.orphan_hosts, State.orphan_targets]
    exact (h2.link_of_idle (by rw [ho, hu]; exact hi)).trans (ho.trans hu)
  | target d =>
    have hset := State.link_setLink_of_ne s hq fun x => { x.emptied with state := l }
    have hpurged : (s.purged d l).link q = s.link q := Eq.trans (by cases q <;> rfl) hset
    have hanswered : (s.purgedAndAnswered d l).link q = s.link q :=
      ((State.answerAll_calm (m := False) _ d _).link_of_idle (by rw [hpurged]; exact hi)).trans hpurged
    change (s.targetLeavesUp d l).link q = _
    rw [State.targetLeavesUp_eq, State.drainCheck_link]
    change (if _ then (s.purgedAndAnswered d l).takeReport _ else s.purgedAndAnswered d l).link q = _
    split
    · have hr := (State.takeReport_calm (g := False) (m := False) (s.purgedAndAnswered d l)
        (purgeReport d (s.tracker.heldBy d)))
      have hiso : ((s.purgedAndAnswered d l).isolatedBy (purgeReport d (s.tracker.heldBy d))).link q = s.link q := by
        unfold State.isolatedBy
        split
        · exact (State.link_setLink_of_ne _ hq _).trans hanswered
        · exact hanswered
      exact (hr.link_of_idle (by rw [hiso]; exact hi)).trans hiso
    · exact hanswered

/-- A pass takes ports at most from UP to ISOLATED, and comes to owe another pass only where it isolates a host port. -/
structure Retreat (s t : State) : Prop where
  state : ∀ p : Port, (t.link p).state = (s.link p).state ∨ (s.link p).state = .up ∧ (t.link p).state = .isolated
  idle : ∀ p : Port, (s.link p).Idle → t.link p = s.link p
  due : t.admission.passDue = true → s.admission.passDue = true ∨
    ∃ h : HPort, (s.link (.host h)).state = .up ∧ (t.link (.host h)).state = .isolated

theorem Retreat.refl (s : State) : Retreat s s := ⟨fun _ => .inl rfl, fun _ _ => rfl, .inl⟩

theorem Retreat.of_calms {g m : Prop} (h : Calms g m s t) (hdue : t.admission.passDue = s.admission.passDue) : Retreat s t :=
  ⟨fun p => .inl (h.still.state p), fun _ => h.link_of_idle, fun ht => .inl (hdue ▸ ht)⟩

/-- What is ISOLATED stays so. -/
theorem Retreat.isolated (h : Retreat s t) {p : Port} (hp : (s.link p).state = .isolated) : (t.link p).state = .isolated :=
  (h.state p).elim (·.trans hp) fun ⟨h1, _⟩ => by rw [hp] at h1; cases h1

/-- A port that is not UP keeps its state. -/
theorem Retreat.state_of_not_up (h : Retreat s t) {p : Port} (hp : (s.link p).state ≠ .up) :
    (t.link p).state = (s.link p).state := (h.state p).resolve_right fun ⟨h1, _⟩ => hp h1

theorem Retreat.up_of_up (h : Retreat s t) {p : Port} (hp : (t.link p).state = .up) : (s.link p).state = .up :=
  (h.state p).elim (fun e => e ▸ hp) (·.1)

theorem Retreat.trans (h : Retreat s t) (k : Retreat t u) : Retreat s u where
  state p := by
    rcases k.state p with e | ⟨h1, h2⟩
    · rw [e]; exact h.state p
    · exact .inr ⟨h.up_of_up h1, h2⟩
  idle p hp := (k.idle p (by rw [h.idle p hp]; exact hp)).trans (h.idle p hp)
  due hu := by
    rcases k.due hu with ht | ⟨x, h1, h2⟩
    · exact (h.due ht).imp_right fun ⟨x, h1, h2⟩ => ⟨x, h1, k.isolated h2⟩
    · exact .inr ⟨x, h.up_of_up h1, h2⟩

theorem State.report_one_retreat (s : State) (r : Report) (hr : s.notUpTarget r.port) : Retreat s (s.report [r]) := by
  have hreport : s.report [r] =
      if s.reportOutcome r = .carriedOut then (s.takeReport r).leavesUp r.port .isolated else s.takeReport r := rfl
  by_cases ho : s.reportOutcome r = .carriedOut
  · rw [hreport, if_pos ho]
    have hup : (s.link r.port).state = .up := Decidable.byContradiction fun hn => State.reportOutcome_of_not_up hn ho
    have hstate : ∀ p, (((s.takeReport r).leavesUp r.port .isolated).link p).state =
        if p = r.port then .isolated else (s.link p).state := fun p => by
      rw [State.leavesUp_state _ _ _ (by decide), State.takeReport_state]
      split
      · rfl
      · next hp => rw [if_neg fun hc => hp hc.2]
    refine ⟨fun p => ?_, fun p hp => ?_, fun _ => .inr ?_⟩
    · rw [hstate]
      split
      · next hp => exact .inr ⟨hp ▸ hup, rfl⟩
      · exact .inl rfl
    · have hne : p ≠ r.port := fun e => by rw [e] at hp; rw [PortUnit.Idle, hup] at hp; exact absurd hp.1 (by decide)
      have hiso : (s.isolatedBy r).link p = s.link p := by
        rw [State.isolatedBy, if_pos ho]
        exact State.link_setLink_of_ne s hne _
      have htake : (s.takeReport r).link p = s.link p :=
        ((s.takeReport_calm (g := False) (m := False) r).link_of_idle (by rw [hiso]; exact hp)).trans hiso
      exact (State.leavesUp_link_of_idle _ _ hne (by rw [htake]; exact hp)).trans htake
    · cases hp : r.port with
      | host h => exact ⟨h, hp ▸ hup, by rw [← hp, hstate, if_pos rfl]⟩
      | target d =>
        rw [hp] at hr hup
        exact absurd ((s.targetUp_iff d).2 hup) (by rw [show s.targetUp d = false from hr]; decide)
  · rw [hreport, if_neg ho]
    refine .of_calms (State.takeReport_calm_of_not_carriedOut (g := True) (m := True) s ho) ?_
    rw [(s.takeReport_onlyReports r).admission, State.isolatedBy, if_neg ho]

theorem State.reportMaybe_retreat (s : State) (f : Option Report) (hf : ∀ r, f = some r → s.notUpTarget r.port) :
    Retreat s (s.reportMaybe f) := by
  cases f with
  | none => exact .refl s
  | some r => exact s.report_one_retreat r (hf r rfl)

theorem State.removeHead_retreat (s : State) (h : HPort) : Retreat s (s.removeHead h) :=
  .of_calms (s.removeHead_calm (g := True) h) rfl

theorem State.setHead_retreat (s : State) (h : HPort) (x : HeadCondition) : Retreat s (s.setHead h x) :=
  .of_calms (s.setHead_calm (g := True) h x) rfl

theorem State.placeTarget_retreat (s : State) (d : DPort) (p : Packet) (hup : s.targetUp d = true)
    (hf : s.egressFull d = false) : Retreat s (s.placeTarget d p) :=
  .of_calms (s.placeTarget_calm d p hup hf (g := True) (m := True)) rfl

theorem State.admitting_retreat (s : State) (h : HPort) (p : Packet) (x : Admitted) (hd : s.decideHead h p = .admitting x) :
    Retreat s (s.admitting h p x) := by
  obtain ⟨-, -, -, hup, hf, -⟩ := State.decideHead_admitting hd
  unfold State.admitting
  have hlast : ∀ v : State, Retreat v { v.removeHead h with admission := { (v.removeHead h).admission with pointer := h + 1 } } :=
    fun v => ⟨(v.removeHead_retreat h).state, (v.removeHead_retreat h).idle, (v.removeHead_retreat h).due⟩
  refine Retreat.trans ?_ (hlast _)
  split
  · exact s.placeTarget_retreat _ _ hup hf
  · have hset : ∀ (e : EntryIx) (f : Entry → Entry), Retreat s (s.setEntry e f) :=
      fun _ _ => ⟨fun _ => .inl rfl, fun _ _ => rfl, .inl⟩
    exact (hset _ _).trans (State.placeTarget_retreat _ _ _ hup hf)
  · exact .refl s

theorem State.placeHost_retreat (s : State) (h : HPort) (c : EgressClass) (p : Packet) (hr : s.hostHasRoom h = true) :
    Retreat s (s.placeHost h c p) := .of_calms (s.placeHost_calm h c p hr (g := True) (m := True)) rfl

theorem State.applyDecision_retreat (s : State) (h : HPort) (b : Bool) (p : Packet)
    (hb : b = true → s.hostHasRoom h = true) : Retreat s (s.applyDecision h b p (s.decideHead h p)) := by
  have hd := fun r => s.decideHead_fault h p r
  generalize hdec : s.decideHead h p = d at hd ⊢
  cases d with
  | answer a f =>
    change Retreat s (s.answerLocally h b a f)
    unfold State.answerLocally
    split
    · next hr =>
      have hroom : s.hostHasRoom h = true := by
        rcases Bool.or_eq_true_iff.1 hr with hr | hr
        · exact hb hr
        · exact State.hostHasRoom_of_givesRoom hr
      have e : ((s.placeHost h .localAnswer a).removeHead h).backdrop = s.backdrop := by simp
      exact ((s.placeHost_retreat h _ a hroom).trans (State.removeHead_retreat _ h)).trans
        (State.reportMaybe_retreat _ f fun r hr => (State.notUpTarget_of_backdrop e _).2 (hd r hr))
    · exact s.setHead_retreat h _
  | drop f =>
    have e : (s.removeHead h).backdrop = s.backdrop := by simp
    exact (s.removeHead_retreat h).trans
      (State.reportMaybe_retreat _ f fun r hr => (State.notUpTarget_of_backdrop e _).2 (hd r hr))
  | divert => exact s.setHead_retreat h _
  | wait r => exact s.setHead_retreat h _
  | admitting x => exact s.admitting_retreat h p x hdec

theorem State.evaluate_retreat (s : State) (h : HPort) (b : Bool) (hb : b = true → s.hostHasRoom h = true) :
    Retreat s (s.evaluate h b) := by
  unfold State.evaluate
  split
  · exact .refl s
  · exact s.applyDecision_retreat _ _ _ hb

theorem State.visit_retreat (s : State) (h : HPort) : Retreat s (s.visit h) := by
  unfold State.visit
  split
  · exact s.evaluate_retreat _ _ nofun
  · exact .refl s

theorem State.visits_retreat (l : List HPort) (s : State) : Retreat s (l.foldl State.visit s) := by
  induction l generalizing s with
  | nil => exact .refl s
  | cons h l ih => exact (s.visit_retreat h).trans (ih _)

theorem State.acceptOne_passDue (s : State) (l : List HPort) : (s.acceptOne l).admission.passDue = s.admission.passDue := by
  unfold State.acceptOne
  split
  · split
    · rfl
    · unfold State.accept
      split <;> rfl
  · rfl

theorem State.pass_retreat (s : State) : Retreat s s.pass :=
  (State.visits_retreat _ s).trans (.of_calms (State.acceptOne_calm (g := True) _ _) (State.acceptOne_passDue _ _))

theorem State.clearWake_retreat (s : State) : Retreat s s.clearWake := ⟨fun _ => .inl rfl, fun _ _ => rfl, nofun⟩

theorem State.settleIn_retreat (n : Nat) (s : State) : Retreat s (State.settleIn n s) := by
  induction n generalizing s with
  | zero => exact s.clearWake_retreat
  | succ n ih =>
    unfold State.settleIn
    split
    · exact (s.clearWake_retreat.trans (State.pass_retreat _)).trans (ih _)
    · exact .refl s

theorem State.settle_retreat (s : State) : Retreat s s.settle := s.settleIn_retreat 5

/-! ## The passes end -/

/-- The number of host ports in UP. -/
def State.upHosts (s : State) : Nat := (List.finRange 4).countP fun h => decide ((s.link (.host h)).state = .up)

/-- A pass that owes another isolates a host port. -/
theorem State.pass_upHosts (s : State) (h : s.clearWake.pass.admission.passDue = true) :
    s.clearWake.pass.upHosts < s.upHosts := by
  have hr := s.clearWake.pass_retreat
  obtain ⟨x, hx, hiso⟩ := (hr.due h).resolve_left nofun
  have hx' : (s.link (.host x)).state = .up := hx
  have hone : ∀ x : HPort, (List.finRange 4).countP (fun k => decide (k = x)) = 1 := by decide
  have hle : s.clearWake.pass.upHosts + (List.finRange 4).countP (fun k => decide (k = x)) ≤ s.upHosts :=
    List.countP_add_countP_le _ _ _ _ (fun k hk => decide_eq_true (hr.up_of_up (of_decide_eq_true hk)))
    fun k hk => by
      rw [of_decide_eq_true hk]
      exact ⟨decide_eq_true hx', decide_eq_false (by rw [hiso]; decide)⟩
  rw [hone] at hle
  exact hle

theorem State.settleIn_of_not_due (n : Nat) (s : State) (h : s.admission.passDue = false) : State.settleIn n s = s := by
  cases n with
  | zero =>
    change { s with admission := { s.admission with passDue := false } } = s
    rw [← h]
  | succ n => rw [State.settleIn, if_neg (by rw [h]; decide)]

/-- More passes than host ports in UP are never taken. -/
theorem State.settleIn_eq_of_le (k : Nat) : ∀ (s : State) (n m : Nat), s.upHosts ≤ k → k < n → k < m →
    State.settleIn n s = State.settleIn m s := by
  induction k with
  | zero =>
    intro s n m hk hn hm
    obtain ⟨n, rfl⟩ := Nat.exists_eq_succ_of_ne_zero hn.ne'
    obtain ⟨m, rfl⟩ := Nat.exists_eq_succ_of_ne_zero hm.ne'
    have hlast : s.clearWake.pass.admission.passDue = false := by
      by_contra hd
      have := s.pass_upHosts (by simpa using hd)
      omega
    unfold State.settleIn
    rw [State.settleIn_of_not_due n _ hlast, State.settleIn_of_not_due m _ hlast]
  | succ k ih =>
    intro s n m hk hn hm
    obtain ⟨n, rfl⟩ := Nat.exists_eq_succ_of_ne_zero (Nat.ne_of_gt (Nat.zero_lt_of_lt hn))
    obtain ⟨m, rfl⟩ := Nat.exists_eq_succ_of_ne_zero (Nat.ne_of_gt (Nat.zero_lt_of_lt hm))
    unfold State.settleIn
    split
    · by_cases hd : s.clearWake.pass.admission.passDue = true
      · exact ih _ n m (by have := s.pass_upHosts hd; omega) (by omega) (by omega)
      · rw [Bool.not_eq_true] at hd
        rw [State.settleIn_of_not_due n _ hd, State.settleIn_of_not_due m _ hd]
    · rfl

theorem State.upHosts_le (s : State) : s.upHosts ≤ 4 := List.countP_le_length.trans (by simp)

/-- The training of a port is none of the passes' business. -/
theorem State.settle_training (s : State) (p : Port) :
    (s.settle.link p).attempts = (s.link p).attempts ∧ (s.settle.link p).tTrn = (s.link p).tTrn :=
  ⟨congrFun (congrArg Backdrop.attempts s.settle_backdrop) p, congrFun (congrArg Backdrop.tTrn s.settle_backdrop) p⟩

theorem State.settle_targetState (s : State) (d : DPort) :
    (s.settle.targets[d]).link.state = (s.targets[d]).link.state :=
  congrFun (congrArg Backdrop.targetState s.settle_backdrop) d

theorem State.settle_sameSettings (s : State) : SameSettings s s.settle := State.sameSettings_of_fixed s.settle_fixed

/-- Settles O22: a pass that owes another has isolated a host port, and the part has four of them. -/
theorem passesEndAndKeepBanksAndSettings : Obligations.PassesEndAndKeepBanksAndSettings := by
  refine ⟨fun s n hn => State.settleIn_eq_of_le 4 s n 5 s.upHosts_le hn (by decide), fun s => ?_⟩
  exact ⟨s.settle_sameSettings, s.settle_banks, s.settle_commit, State.now_of_fixed s.settle_fixed,
    State.pending_of_fixed s.settle_fixed, s.settleIn_passDue 5, s.settle_targetState, s.settle_training,
    s.settle_of_not_due⟩

end Sys2Proof.Machine

/-! PROOFS. The step, and the three kinds of reset. -/

namespace Sys2Proof.Machine

-- One proof at a time: side by side they take more memory than the check allows.
set_option Elab.async false

variable (s : State)

/-- Settles O1: the step is written so. -/
theorem stepRunsTheFrontCommand : Obligations.StepRunsTheFrontCommand := by
  refine ⟨fun c rest s h => ?_, fun s h => ?_⟩
  · unfold step
    rw [h]
  · unfold step
    split
    · rfl
    · next hc => rw [h] at hc; cases hc

/-! ## Cold reset -/

theorem reset_hosts (h : HPort) : State.reset.hosts[h] = HostPort.reset := by
  simp [State.reset, State.resetWith]

theorem reset_targets (d : DPort) : State.reset.targets[d] = TargetPort.reset := by
  simp [State.reset, State.resetWith]

theorem reset_link (p : Port) : State.reset.link p = PortUnit.reset := by
  cases p with
  | host h => exact congrArg HostPort.link (reset_hosts h)
  | target d => exact congrArg TargetPort.link (reset_targets d)

theorem reset_ort (e : EntryIx) : State.reset.tracker.ort[e] = {} := by
  simp [State.reset, State.resetWith, Tracker.reset]

theorem reset_heads (h : HPort) : State.reset.admission.heads[h] = .noHead := by
  simp [State.reset, State.resetWith, Admission.reset]

theorem reset_answers (h : HPort) : State.reset.tracker.answers[h] = [] := by
  simp [State.reset, State.resetWith, Tracker.reset]

theorem reset_waiting (d : DPort) : State.reset.tracker.waiting[d] = none := by
  simp [State.reset, State.resetWith, Tracker.reset]

/-- The default classes are those of R164. -/
theorem defaultClasses_eq (k : FaultKind) : State.reset.classOf k =
    if k ∈ [.mgmtDenied, .accessDenied, .duplicateTag, .completionTimeout, .unexpectedCompletion,
      .completionMismatch, .absorbedWriteFailed, .linkLost, .trainingFailed] then .notify else .record := by
  cases k <;> rfl

/-- The part's own values after a cold reset, at the levels of the straps (R195, R197). -/
theorem resetWith_eq (aps mgs : BitVec 2) : State.resetWith aps mgs = { State.reset with
    mgmt := { State.reset.mgmt with
      apertureBase := if aps = 0 then 0xFFFFFF else if aps = 1 then 0xFFF000 else if aps = 2 then 0x800000 else 0
      grant := if mgs = 0 then 0b0001 else if mgs = 1 then 0b0010 else if mgs = 2 then 0b0100 else 0b1000
      supervisor := mgs.toFin } } := by
  have hgrant : ∀ m : BitVec 2, (1#4 <<< m.toNat) =
      if m = 0 then 0b0001 else if m = 1 then 0b0010 else if m = 2 then 0b0100 else 0b1000 := by decide
  change State.resetWith aps mgs = { State.resetWith aps mgs with mgmt := { Management.reset aps mgs with
    grant := if mgs = 0 then 0b0001 else if mgs = 1 then 0b0010 else if mgs = 2 then 0b0100 else 0b1000 } }
  rw [← hgrant]
  rfl

/-- Settles O3: the reset state is written so, and the straps change only the management unit's three settings. -/
theorem coldResetGivesEveryBlockItsValues : Obligations.ColdResetGivesEveryBlockItsValues := by
  refine ⟨fun h => reset_hosts h, fun d => reset_targets d, fun w => ?_, fun g => ?_, rfl, rfl, rfl, rfl,
    fun h => reset_heads h, fun e => reset_ort e, fun h => ⟨reset_answers h, ?_⟩, fun d => reset_waiting d, rfl, rfl, rfl, rfl,
    rfl, defaultClasses_eq, rfl, rfl, rfl, rfl, fun aps mgs s => ?_⟩
  · simp [State.reset, State.resetWith, Bank.reset]
  · simp [State.reset, State.resetWith, Bank.reset]
  · simp [State.reset, State.resetWith, Tracker.reset, Management.reset]
  · change Host.Outcome.next { State.resetWith aps mgs with now := s.now, pending := s.pending } = _
    rw [resetWith_eq]

/-! ## The invariants at reset -/

theorem reset_queuesWithinCapacity : QueuesWithinCapacity State.reset where
  hostIngress h := by rw [reset_hosts]; exact Nat.zero_le _
  hostEgress h := by rw [reset_hosts]; exact Nat.zero_le _
  targetIngress d := by rw [reset_targets]; exact Nat.zero_le _
  targetEgress d := by rw [reset_targets]; exact Nat.zero_le _
  faultQueue := Nat.zero_le _
  pendingList := Nat.zero_le _

theorem reset_entryFits : EntryFits {} where
  deadline h := absurd h (by decide)
  quarantine := by decide
  waiting h := absurd h (by decide)
  receiving h := absurd h (by decide)
  quarantinedSent h := absurd h (by decide)
  absorbed := by decide

theorem reset_load (h : HPort) : State.reset.tracker.load h = 0 := by
  simp [State.reset, State.resetWith, Tracker.load, Tracker.owing, Tracker.finalsWaiting, Tracker.hostCount, Tracker.reset,
    Entry.countsForHost, Entry.inFlight]

theorem reset_channelFits : ChannelFits State.reset where
  outstanding := by decide
  timer := by decide
  copy h := absurd h (by decide)
  headSent h := absurd h (by decide)
  othersUnsent i hi := nomatch hi

/-- Settles O60: after reset every queue and list is empty, every entry FREE and every port DOWN. -/
theorem resetMeetsTheInvariants : Obligations.ResetMeetsTheInvariants := by
  have hfree : ∀ e : EntryIx, (State.reset.tracker.ort[e]).state = .free := fun e => by rw [reset_ort]
  refine ⟨reset_queuesWithinCapacity, fun p _ _ => ?_, ⟨fun p => ?_, by decide⟩, fun h => ?_, trivial,
    fun e he => absurd (hfree e) he, fun e f he => ?_, fun e => ?_, (fun h => by cases h),
    (answerListsBounded_iff _).2 fun h => by rw [reset_load]; decide, .resetWith _ _, ⟨bankLegal_reset, fun h => nomatch h⟩,
    reset_channelFits⟩
  · rw [reset_link]; exact ⟨rfl, rfl⟩
  · rw [reset_link]; decide
  · rw [reset_heads]
    exact .inr (by rw [reset_hosts]; rfl)
  · rw [reset_ort] at he
    exact absurd he (by decide)
  · rw [reset_ort]; exact reset_entryFits

/-! ## Warm reset -/

theorem State.warmCommit_eq : s.warmCommit = { s with commit := if s.commit.engine = .idle then s.commit else
    { engine := .idle, tDrn := none, drainDeadline := s.commit.drainDeadline,
      result := { code := .abandoned, first := none, second := none, generation := s.banks.generation } } } := by
  unfold State.warmCommit
  split <;> rfl

theorem State.warm_keeps : s.warm.banks = s.banks ∧ s.warm.recorder = s.recorder ∧ s.warm.commit = s.warmCommit.commit ∧
    s.warm.mgmt = s.mgmt.warm ∧ s.warm.notifier = s.notifier.warm ∧ s.warm.now = s.now ∧ s.warm.pending = s.pending := by
  have hw := s.warmCommit_eq
  unfold State.warm
  rw [hw]
  exact ⟨rfl, rfl, rfl, rfl, rfl, rfl, rfl⟩

theorem exec_warmReset (h : s.mgmt.action = some .warmReset) : exec .warmReset s = .next s.warm := by
  change execWarmReset s = _
  unfold execWarmReset
  rw [h]

/-- Settles O4: the warm reset is the one action on every block at once, and writes no setting. -/
theorem warmResetClearsAndKeeps : Obligations.WarmResetClearsAndKeeps := by
  intro s h
  obtain ⟨hbanks, hrec, hcommit, hmgmt, hnot, hnow, hpend⟩ := s.warm_keeps
  have hset : SameSettings s s.warm := settingsChangeOnlyByTheirWrites _ _ _ (exec_warmReset s h) rfl
  refine ⟨s.warm, exec_warmReset s h, hset, hbanks, hrec, by rw [hmgmt]; rfl, fun p => ?_, fun k => ?_, rfl, rfl, rfl,
    fun k => ?_, fun e => s.warm_ort e, fun d => ?_, ?_, hnot, by rw [hmgmt]; rfl, by rw [hmgmt]; rfl, hnow, hpend⟩
  · rw [State.warm_link]
    exact ⟨rfl, rfl, rfl, rfl, rfl⟩
  · simp [State.warm]
  · rw [hmgmt]
    simp [State.warm, Admission.reset, Tracker.warm, Tracker.reset, Management.warm]
  · simp [State.warm, Tracker.warm, Tracker.reset]
  · rw [hcommit, State.warmCommit_eq]

end Sys2Proof.Machine

/-! PROOFS. The events of the links (chapters 1 and 2). -/

namespace Sys2Proof.Machine

-- One proof at a time: side by side they take more memory than the check allows.
set_option Elab.async false

variable (s : State)

/-! ## Training -/

theorem State.link_setLink_self_or (p q : Port) (f : PortUnit → PortUnit) :
    (s.setLink p f).link q = if q = p then f (s.link p) else s.link q := by
  split
  · next h => rw [h, State.link_setLink]
  · next h => exact s.link_setLink_of_ne h f

/-- An attempt begun, and the passes after it: what stands of the port, and what no one touches. -/
theorem settle_attempt (p : Port) {u : State} (hu : u = (s.beginAttempt p).wakeTarget p) :
    (u.settle.link p).state = .training ∧ (u.settle.link p).attempts = (s.link p).attempts + 1 ∧
      (u.settle.link p).tTrn = some (s.now + 1900) ∧
      (∀ q : Port, q ≠ p → (u.settle.link q).attempts = (s.link q).attempts ∧ (u.settle.link q).tTrn = (s.link q).tTrn) ∧
      u.settle.banks = s.banks ∧ u.settle.commit = s.commit ∧ SameSettings s u.settle ∧ u.settle.now = s.now := by
  have hlink : ∀ q, u.link q = if q = p then
      { s.link p with state := .training, attempts := (s.link p).attempts + 1, tTrn := some (s.now + 1900) }
      else s.link q := fun q => by
    rw [hu, State.link_wakeTarget]
    exact s.link_setLink_self_or p q _
  have hp := (hlink p).trans (if_pos rfl)
  have hfixed : u.settle.fixed = s.fixed := by
    rw [State.settle_fixed, hu, State.wakeTarget_fixed]
    exact s.setLink_fixed p _ fun _ => rfl
  have hback : u.banks = s.banks ∧ u.commit = s.commit := by
    rw [hu]
    cases p <;> exact ⟨rfl, rfl⟩
  refine ⟨?_, ?_, ?_, fun q hq => ?_, (State.settle_banks u).trans hback.1, (State.settle_commit u).trans hback.2,
    State.sameSettings_of_fixed hfixed, State.now_of_fixed hfixed⟩
  · exact (u.settle_retreat.state_of_not_up (by rw [hp]; exact nofun)).trans (by rw [hp])
  · rw [(u.settle_training p).1, hp]
  · rw [(u.settle_training p).2, hp]
  · rw [(u.settle_training q).1, (u.settle_training q).2, hlink q, if_neg hq]
    exact ⟨rfl, rfl⟩

theorem exec_partnerDetected (p : Port) (h : (s.link p).state = .down) :
    exec (.partnerDetected p) s = .next ((s.beginAttempt p).wakeTarget p).settle := if_pos h

/-- A port come up, before the send and the passes. -/
def State.cameUp (s : State) (p : Port) : State := s.setLink p fun u => { u with state := .up, tTrn := none }

theorem exec_trainingSucceeds (p : Port) (h : (s.link p).state = .training) : exec (.trainingSucceeds p) s =
    .next (((s.cameUp p).wakeTarget p).judgeSend p).settle := if_pos h

theorem State.judgeSend_host (h : HPort) : (s.wakeTarget (.host h)).judgeSend (.host h) = s.sendNotification := rfl

theorem State.judgeSend_target (d : DPort) : (s.wakeTarget (.target d)).judgeSend (.target d) = s.wake := rfl

theorem exec_trainingFails (p : Port) (h : (s.link p).state = .training) :
    exec (.trainingFails p) s = .next (s.attemptFails p).settle := if_pos h

theorem exec_tTrnExpiry (p : Port) (m : Nat) (h : (s.link p).state = .training) (hm : (s.link p).tTrn = some m) :
    exec (.tTrnExpiry p) s = .next ((s.reach m).attemptFails p).settle := by
  change execTTrnExpiry p s = _
  unfold execTTrnExpiry
  rw [h, hm]
  rfl

/-- A send changes no port's state or training. -/
theorem State.sendNotification_still : Still s s.sendNotification :=
  (s.sendNotification_calm (g := True) (m := True)).still

theorem State.cameUp_link (p : Port) : (s.cameUp p).link p = { s.link p with state := .up, tTrn := none } :=
  s.link_setLink p _

/-- What a port come up keeps through changes that leave states and training alone. -/
theorem cameUp_kept {t : State} {p : Port} (hs : (t.link p).state = ((s.cameUp p).link p).state)
    (hm : (t.link p).tTrn = ((s.cameUp p).link p).tTrn) (ha : (t.link p).attempts = ((s.cameUp p).link p).attempts) :
    (t.link p).state = .up ∧ (t.link p).tTrn = none ∧ (t.link p).attempts = (s.link p).attempts := by
  rw [State.cameUp_link] at hs hm ha
  exact ⟨hs, hm, ha⟩

theorem exec_trainingSucceeds_target (d : DPort) (h : s.targets[d].link.state = .training) :
    exec (.trainingSucceeds (.target d)) s = .next (s.cameUp (.target d)).wake.settle := by
  rw [exec_trainingSucceeds s (.target d) h, State.judgeSend_target]

theorem exec_trainingSucceeds_host (h : HPort) (ht : s.hosts[h].link.state = .training) (hd : s.admission.passDue = false) :
    exec (.trainingSucceeds (.host h)) s = .next (s.cameUp (.host h)).sendNotification := by
  have hdue : (s.cameUp (.host h)).sendNotification.admission.passDue = false :=
    (congrArg Admission.passDue (s.cameUp (.host h)).sendNotification_onlyReports.admission).trans hd
  rw [exec_trainingSucceeds s (.host h) ht, State.judgeSend_host, State.settle_of_not_due _ hdue]

/-- Settles O5: an attempt and its success change the port alone, and the passes after them leave its training alone. -/
theorem trainingBeginsAndBringsThePortUp : Obligations.TrainingBeginsAndBringsThePortUp := by
  refine ⟨fun p s h => ?_, fun d s h => ?_, fun h s ht hd => ?_⟩
  · exact ⟨_, exec_partnerDetected s p h, congrArg State.settle rfl,
      settle_attempt s p (u := (s.beginAttempt p).wakeTarget p) rfl⟩
  · have hexec := exec_trainingSucceeds_target s d h
    have heq : (s.cameUp (.target d)).wake.settle =
        (s.setTarget d fun x => { x with link := { x.link with state := .up, tTrn := none } }).wake.settle :=
      congrArg State.settle rfl
    have hset := settingsChangeOnlyByTheirWrites _ _ _ hexec rfl
    obtain ⟨hatt, htimer⟩ := (s.cameUp (.target d)).wake.settle_training (.target d)
    have hup := cameUp_kept s (p := .target d) ((s.cameUp (.target d)).wake.settle_targetState d) htimer hatt
    generalize (s.cameUp (.target d)).wake.settle = t at hexec heq hset hup
    exact ⟨t, hexec, heq, hup.1, hup.2.1, hup.2.2, hset⟩
  · have hexec := exec_trainingSucceeds_host s h ht hd
    have heq : (s.cameUp (.host h)).sendNotification =
        (s.setHost h fun x => { x with link := { x.link with state := .up, tTrn := none } }).sendNotification :=
      congrArg State.sendNotification rfl
    have hset := settingsChangeOnlyByTheirWrites _ _ _ hexec rfl
    have hstill := (s.cameUp (.host h)).sendNotification_still
    have hup := cameUp_kept s (p := .host h) (hstill.state _) (hstill.tTrn _) (hstill.attempts _)
    generalize (s.cameUp (.host h)).sendNotification = t at hexec heq hset hup
    exact ⟨t, hexec, heq, hup.1, hup.2.1, hup.2.2, hset⟩

/-- A report about a port that is not UP leaves ports' states and training alone. -/
theorem State.report_one_still {r : Report} (h : (s.link r.port).state ≠ .up) : Still s (s.report [r]) := by
  have ho := State.reportOutcome_of_not_up (s := s) (r := r) h
  have hreport : s.report [r] =
      if s.reportOutcome r = .carriedOut then (s.takeReport r).leavesUp r.port .isolated else s.takeReport r := rfl
  rw [hreport, if_neg ho]
  exact (s.takeReport_calm_of_not_carriedOut (g := True) (m := True) ho).still

/-- The port of an attempt that was the last is FAILED, after its report and the passes. -/
theorem settle_failed (p : Port) {u : State}
    (hu : u = (s.setLink p fun v => { v with state := .failed, tTrn := none }).wakeTarget p) :
    ((u.report [{ kind := .trainingFailed, port := p }]).settle.link p).state = .failed ∧
      ((u.report [{ kind := .trainingFailed, port := p }]).settle.link p).tTrn = none ∧
      ((u.report [{ kind := .trainingFailed, port := p }]).settle.link p).attempts = (s.link p).attempts := by
  have hp : u.link p = { s.link p with state := .failed, tTrn := none } := by
    rw [hu, State.link_wakeTarget, State.link_setLink]
  have hstill := State.report_one_still u (r := { kind := .trainingFailed, port := p }) (by rw [hp]; exact nofun)
  obtain ⟨hatt, htimer⟩ := (u.report [{ kind := .trainingFailed, port := p }]).settle_training p
  have hstate : ((u.report [{ kind := .trainingFailed, port := p }]).link p).state = .failed := by rw [hstill.state, hp]
  refine ⟨?_, ?_, ?_⟩
  · exact ((u.report [{ kind := .trainingFailed, port := p }]).settle_retreat.state_of_not_up
      (by rw [hstate]; decide)).trans hstate
  · rw [htimer, hstill.tTrn, hp]
  · rw [hatt, hstill.attempts, hp]

theorem PortUnit.with_state_tTrn {u : PortUnit} {l : LinkState} {m : Option Nat} (hl : u.state = l) (hm : u.tTrn = m) :
    u = { u with state := l, tTrn := m } := by
  rw [← hl, ← hm]

/-- Settles O6: the attempt's end is `attemptFails`, on the state as it stands or at the timer's moment. -/
theorem failedAttemptIsRepeatedOrEndsInFailed : Obligations.FailedAttemptIsRepeatedOrEndsInFailed := by
  intro p s h
  have hagain : ∀ u : State, (u.link p).attempts < (u.link p).attemptLimit → u.attemptFails p = u.beginAttempt p :=
    fun u hl => if_pos hl
  have hlast : ∀ u : State, (u.link p).attemptLimit ≤ (u.link p).attempts → u.attemptFails p =
      ((u.setLink p fun v => { v with state := .failed, tTrn := none }).wakeTarget p).report
        [{ kind := .trainingFailed, port := p }] := fun u hl => if_neg (Nat.not_lt.2 hl)
  have hreach : ∀ m, (s.reach m).link p = s.link p := fun m => by cases p <;> rfl
  refine ⟨fun hl => ⟨?_, fun m hm => ?_⟩, fun hl => ⟨?_, ?_, ?_, fun m hm => ?_⟩⟩
  · rw [exec_trainingFails s p h, hagain s hl]
    rfl
  · rw [exec_tTrnExpiry s p m h hm, hagain _ (by rw [hreach]; exact hl)]
    rfl
  · rw [exec_trainingFails s p h, hlast s hl]
  · obtain ⟨hstate, htimer, -⟩ := settle_failed s p rfl
    exact PortUnit.with_state_tTrn hstate htimer
  · exact (settle_failed s p rfl).2.2
  · rw [exec_tTrnExpiry s p m h hm, hlast _ (by rw [hreach]; exact hl)]
    rfl

/-! ## Link loss -/

/-- The states differ at most in admission and the management unit. -/
def OnlyUnit (s t : State) : Prop := t = { s with admission := t.admission, mgmt := t.mgmt }

theorem OnlyUnit.trans {s t u : State} (h : OnlyUnit s t) (k : OnlyUnit t u) : OnlyUnit s u := by
  unfold OnlyUnit at *
  rw [k, h]

theorem OnlyUnit.link {s t : State} (h : OnlyUnit s t) (p : Port) : t.link p = s.link p := by
  rw [h]
  cases p <;> rfl

theorem State.leaveHeld_onlyUnit (h : HPort) : OnlyUnit s (s.leaveHeld h) := by
  unfold State.leaveHeld
  split <;> rfl

theorem State.freeUnit_onlyUnit (h : HPort) : OnlyUnit s (s.freeUnit h) := by
  rw [State.freeUnit_eq]
  exact (OnlyUnit.trans (t := s.unitFreed) rfl (State.leaveHeld_onlyUnit _ h)).trans rfl

theorem State.completeSelf_onlyUnit (a : Access) (x : Option SelfAction) : OnlyUnit s (s.completeSelf a x) := by
  unfold State.completeSelf
  refine OnlyUnit.trans ?_ (State.freeUnit_onlyUnit _ _)
  split <;> rfl

theorem State.discardAnswer_onlyUnit (h : HPort) : OnlyUnit s (s.discardAnswer h) := by
  unfold State.discardAnswer
  split
  · rfl
  · refine OnlyUnit.trans (t := s.clearAnswer h) rfl ?_
    unfold State.answerGone
    split
    · split
      · exact State.completeSelf_onlyUnit _ _ _
      · rfl
    · rfl

/-- A port once it has left UP for `l`, if it was UP. -/
def State.leftUp (s : State) (p : Port) (l : LinkState) : State := if (s.link p).state = .up then s.leavesUp p l else s

theorem State.takeDown_host (h : HPort) (l : LinkState) : s.takeDown (.host h) l =
    (((s.leftUp (.host h) l).setLink (.host h) fun u => u.closed l).setHost h fun x =>
      { x with isolatedWaits := false }).discardAnswer h := rfl

theorem State.takeDown_target (d : DPort) (l : LinkState) : s.takeDown (.target d) l =
    ((s.leftUp (.target d) l).setLink (.target d) fun u => u.closed l).wake := rfl

/-- A port taken down stands closed. -/
theorem State.takeDown_link (p : Port) (l : LinkState) : (s.takeDown p l).link p = ((s.leftUp p l).link p).closed l := by
  cases p with
  | host h =>
    rw [State.takeDown_host, (State.discardAnswer_onlyUnit _ h).link]
    simp [State.link, State.setLink, State.setHost]
  | target d => exact State.link_setLink (s.leftUp (.target d) l) (.target d) fun u => u.closed l

theorem PortUnit.closed_idle (u : PortUnit) {l : LinkState} (hl : l.carries = false) : (u.closed l).Idle := ⟨hl, rfl, rfl⟩

/-- A port taken down to DOWN stays so through a report that names it and the passes. -/
theorem takeDown_settle_link (p : Port) {rs : List Report} (hrs : rs = [] ∨ ∃ r, rs = [r] ∧ r.port = p) :
    (((s.takeDown p .down).report rs).settle.link p) = ((s.leftUp p .down).link p).closed .down := by
  have hdown := s.takeDown_link p .down
  have hidle := ((s.leftUp p .down).link p).closed_idle (l := .down) rfl
  have hreport : ((s.takeDown p .down).report rs).link p = ((s.leftUp p .down).link p).closed .down := by
    rcases hrs with rfl | ⟨r, rfl, hr⟩
    · exact hdown
    · have ho : (s.takeDown p .down).reportOutcome r ≠ .carriedOut :=
        State.reportOutcome_of_not_up (by rw [hr, hdown]; exact nofun)
      have htake : (s.takeDown p .down).report [r] = (s.takeDown p .down).takeReport r := if_neg ho
      rw [htake, (State.takeReport_calm_of_not_carriedOut (g := True) (m := True) _ ho).link_of_idle (by rw [hdown]; exact hidle),
        hdown]
  exact (((s.takeDown p .down).report rs).settle_retreat.idle p (by rw [hreport]; exact hidle)).trans hreport

theorem exec_linkLoss_up (p : Port) (h : (s.link p).state = .up) :
    exec (.linkLoss p) s = .next ((s.takeDown p .down).report (s.linkLossReports p)).settle := by
  change execLinkLoss p s = _
  unfold execLinkLoss
  rw [h]
  rfl

theorem exec_linkLoss_isolated (p : Port) (h : (s.link p).state = .isolated) :
    exec (.linkLoss p) s = .next (s.takeDown p .down).settle := by
  change execLinkLoss p s = _
  unfold execLinkLoss
  rw [h]
  rfl

theorem exec_linkLoss_training (p : Port) (h : (s.link p).state = .training) :
    exec (.linkLoss p) s = .next (s.attemptFails p).settle := by
  change execLinkLoss p s = _
  unfold execLinkLoss
  rw [h]
  rfl

theorem exec_linkLoss_ignored (p : Port) (h : (s.link p).state = .down ∨ (s.link p).state = .failed ∨ (s.link p).state = .disabled) :
    exec (.linkLoss p) s = .next s := by
  change execLinkLoss p s = _
  unfold execLinkLoss
  rcases h with h | h | h <;> rw [h]

theorem exec_tTrnExpiry_ignored (p : Port) (h : (s.link p).state ≠ .training) : exec (.tTrnExpiry p) s = .next s := by
  change execTTrnExpiry p s = _
  unfold execTTrnExpiry
  split
  · next h' _ => exact absurd h' h
  · rfl

/-- The report of a host port's link loss, by what it held. -/
theorem State.linkLossReports_host (h : HPort) : s.linkLossReports (.host h) =
    if s.tracker.hostCount h ≠ 0 ∨ s.hosts[h].link.ingress ≠ [] ∨ s.hosts[h].link.egress ≠ [] then
      [{ kind := .linkLost, port := .host h }] else [] := by
  have hiff : s.hostHolds h = true ↔
      s.tracker.hostCount h ≠ 0 ∨ s.hosts[h].link.ingress ≠ [] ∨ s.hosts[h].link.egress ≠ [] := by
    simp [State.hostHolds, or_assoc]
  exact if_congr hiff rfl rfl

theorem State.linkLossReports_port (p : Port) : s.linkLossReports p = [] ∨ ∃ r, s.linkLossReports p = [r] ∧ r.port = p := by
  cases p with
  | host h =>
    rw [State.linkLossReports_host]
    split
    · exact .inr ⟨_, rfl, rfl⟩
    · exact .inl rfl
  | target d => exact .inl rfl

/-- What LINK_LOSS leaves of a port in UP or ISOLATED. -/
theorem exec_linkLoss_link (p : Port) (h : (s.link p).state = .up ∨ (s.link p).state = .isolated) :
    ∃ t u, exec (.linkLoss p) s = .next t ∧ t.link p = PortUnit.closed u .down := by
  rcases h with h | h
  · exact ⟨_, _, exec_linkLoss_up s p h, takeDown_settle_link s p (s.linkLossReports_port p)⟩
  · exact ⟨_, _, exec_linkLoss_isolated s p h, takeDown_settle_link s p (rs := []) (.inl rfl)⟩

/-- Settles O7: the state of the port selects the event's row of R20, and a port taken DOWN stays closed after its report
and the passes. -/
theorem linkLossTakesThePortDown : Obligations.LinkLossTakesThePortDown := by
  refine ⟨fun p s => ⟨fun h => ?_, exec_linkLoss_isolated s p, ?_, ?_, fun h => ?_⟩, fun p s => ⟨fun h => if_neg h, fun h => ?_,
    exec_linkLoss_ignored s p⟩⟩
  · obtain ⟨t, u, ht, hlink⟩ := exec_linkLoss_link s p h
    refine ⟨t, ht, ?_, ?_, ?_, ?_, ?_, settingsChangeOnlyByTheirWrites _ _ _ ht rfl⟩ <;> rw [hlink] <;> rfl
  · rintro d rfl h
    exact exec_linkLoss_up s (.target d) h
  · rintro k rfl h
    rw [exec_linkLoss_up s (.host k) h, State.linkLossReports_host]
  · exact (exec_linkLoss_training s p h).trans (exec_trainingFails s p h).symm
  · exact ⟨if_neg h, if_neg h, exec_tTrnExpiry_ignored s p h⟩

end Sys2Proof.Machine

/-! PROOFS. Packets: the layouts of R205 lose nothing; what becomes of a packet on arrival, on acceptance by the partner and
at the head of an isolated port. -/

namespace Sys2Proof.Machine

-- One proof at a time: side by side they take more memory than the check allows.
set_option Elab.async false

/-! ## The layouts -/

theorem leBytes_length (n v : Nat) : (leBytes n v).length = n := by
  induction n generalizing v with
  | zero => rfl
  | succ n ih => simp [leBytes, ih]

/-- A little-endian byte string holds the low bytes of the number it was made from. -/
theorem leNat_leBytes (n v : Nat) : leNat (leBytes n v) = v % 256 ^ n := by
  induction n generalizing v with
  | zero => simp [leBytes, leNat, Nat.mod_one]
  | succ n ih =>
    change (BitVec.ofNat 8 v).toNat + 256 * leNat (leBytes n (v / 256)) = _
    have hpow : 256 ^ (n + 1) = 256 * 256 ^ n := Nat.pow_succ'
    rw [ih, BitVec.toNat_ofNat, hpow, Nat.mod_mul]

theorem leNat_leBytes_of_lt {n v : Nat} (h : v < 256 ^ n) : leNat (leBytes n v) = v := by
  rw [leNat_leBytes, Nat.mod_eq_of_lt h]

theorem Packet.headerBytes_length (p : Packet) : p.headerBytes.length = 16 := by
  simp [Packet.headerBytes, leBytes_length]

theorem Packet.toBytes_length (p : Packet) : p.toBytes.length = 20 + p.payload.length := by
  simp only [Packet.toBytes, List.length_append, leBytes_length, Packet.headerBytes_length]
  omega

/-- The check stands in the last four bytes, over what stands before them (R10). -/
theorem Packet.toBytes_split (p : Packet) : p.toBytes.take (p.toBytes.length - 4) = p.headerBytes ++ p.payload ∧
    p.toBytes.drop (p.toBytes.length - 4) = leBytes 4 (crc32 (p.headerBytes ++ p.payload)).toNat := by
  have hlen : p.toBytes.length - 4 = (p.headerBytes ++ p.payload).length := by
    rw [p.toBytes_length, List.length_append, p.headerBytes_length]
    omega
  rw [hlen]
  exact ⟨List.take_left, List.drop_left⟩

theorem Packet.toBytes_integrity (p : Packet) : integrityOk p.toBytes = true := by
  obtain ⟨htake, hdrop⟩ := p.toBytes_split
  unfold integrityOk
  rw [htake, hdrop, leNat_leBytes_of_lt (BitVec.isLt _), beq_self_eq_true]

/-- The byte that carries device and severity gives both back (R205). -/
theorem deviceSeverity_extract (d : BitVec 4) (v : BitVec 2) :
    (v.setWidth 8 <<< 4 ||| d.setWidth 8 : Byte).extractLsb' 0 4 = d ∧
      (v.setWidth 8 <<< 4 ||| d.setWidth 8 : Byte).extractLsb' 4 2 = v := by
  revert d v
  decide

/-- The header's bytes in their places. -/
theorem Packet.headerBytes_eq (p : Packet) : p.headerBytes =
    [p.kindCode, p.tag] ++ (leBytes 2 p.length.toNat ++ ([p.offset, if p.final then 1 else 0, p.status,
      p.severity.setWidth 8 <<< 4 ||| p.device.setWidth 8] ++ (leBytes 6 p.address.toNat ++ [0, 0]))) := by
  simp only [Packet.headerBytes, List.append_assoc]

/-- The bytes behind any header, wherever they end, parse back to the fields of the header. -/
theorem parsePacket_headerBytes (p : Packet) (rest : List Byte) : parsePacket (p.headerBytes ++ rest) =
    { p with payload := rest.take (rest.length - 4) } := by
  have hlen : leNat (leBytes 2 p.length.toNat) = p.length.toNat :=
    leNat_leBytes_of_lt (p.length.isLt.trans (by decide))
  have haddr : leNat (leBytes 6 p.address.toNat) = p.address.toNat :=
    leNat_leBytes_of_lt (p.address.isLt.trans (by decide))
  obtain ⟨hdev, hsev⟩ := deviceSeverity_extract p.device p.severity
  have hfinal : (if p.final = true then 1#8 else 0#8)[0] = p.final := by cases p.final <;> simp
  have hdrop2 : ((p.headerBytes ++ rest).drop 2).take 2 = leBytes 2 p.length.toNat := by
    simp [Packet.headerBytes_eq, leBytes]
  have hdrop8 : ((p.headerBytes ++ rest).drop 8).take 6 = leBytes 6 p.address.toNat := by
    simp [Packet.headerBytes_eq, leBytes]
  have hpayload : ((p.headerBytes ++ rest).drop 16).take ((p.headerBytes ++ rest).length - 20) =
      rest.take (rest.length - 4) := by
    have h16 : (p.headerBytes ++ rest).drop 16 = rest := by
      rw [← p.headerBytes_length]
      exact List.drop_left
    have hcount : (p.headerBytes ++ rest).length - 20 = rest.length - 4 := by
      rw [List.length_append, p.headerBytes_length]
      omega
    rw [h16, hcount]
  unfold parsePacket
  rw [hdrop2, hdrop8, hpayload, hlen, haddr, BitVec.ofNat_toNat, BitVec.ofNat_toNat, BitVec.setWidth_eq, BitVec.setWidth_eq]
  simp [headerByte, Packet.headerBytes_eq, leBytes, hdev, hsev, hfinal]

theorem Packet.toBytes_parse (p : Packet) : parsePacket p.toBytes = p := by
  have hbytes : p.toBytes =
      p.headerBytes ++ (p.payload ++ leBytes 4 (crc32 (p.headerBytes ++ p.payload)).toNat) := by
    simp [Packet.toBytes]
  have hpayload : (p.payload ++ leBytes 4 (crc32 (p.headerBytes ++ p.payload)).toNat).length - 4 = p.payload.length := by
    rw [List.length_append, leBytes_length]
    omega
  rw [hbytes, parsePacket_headerBytes, hpayload, List.take_left]

/-- Settles O13: each field of the header has bytes of its own, and the check is computed over what it is checked against. -/
theorem sentPacketParsesBack : Obligations.SentPacketParsesBack := by
  intro p hp
  refine ⟨?_, p.toBytes_integrity, p.toBytes_parse⟩
  rw [packetSizeOk, p.toBytes_length, Bool.and_eq_true, decide_eq_true_eq, decide_eq_true_eq]
  omega

/-! ## Arrival -/

variable (s : State)

theorem Kind.ofCode_eq_some_iff (c : Byte) (k : Kind) : Kind.ofCode c = some k ↔ c = k.code := by
  revert c
  cases k <;> decide

theorem kindLegalOn_host (h : HPort) (c : Byte) : kindLegalOn (.host h) (Kind.ofCode c) = true ↔ c ∈ [1#8, 2#8, 3#8] := by
  have hkinds : ∀ k, kindLegalOn (.host h) k = true ↔ k = some .rdq ∨ k = some .wpq ∨ k = some .waq := by
    rintro (_ | k)
    · simp [kindLegalOn]
    · cases k <;> simp [kindLegalOn]
  simp only [hkinds, Kind.ofCode_eq_some_iff, List.mem_cons, List.not_mem_nil, or_false]
  rfl

theorem kindLegalOn_target (d : DPort) (c : Byte) : kindLegalOn (.target d) (Kind.ofCode c) = true ↔ c ∈ [4#8, 5#8, 6#8] := by
  have hkinds : ∀ k, kindLegalOn (.target d) k = true ↔ k = some .cpd ∨ k = some .cps ∨ k = some .alm := by
    rintro (_ | k)
    · simp [kindLegalOn]
    · cases k <;> simp [kindLegalOn]
  simp only [hkinds, Kind.ofCode_eq_some_iff, List.mem_cons, List.not_mem_nil, or_false]
  rfl

/-- A request has no form checks on arrival (R11). -/
theorem Packet.formOk_of_request {p : Packet} (h : p.kindCode ∈ [1#8, 2#8, 3#8]) : p.formOk = true := by
  unfold Packet.formOk Packet.kind
  simp only [List.mem_cons, List.not_mem_nil, or_false] at h
  rcases h with h | h | h <;> rw [h] <;> rfl

/-- The size and the integrity of a byte string on arrival (R1, R10). -/
def arrivalSound (bs : List Byte) : Prop :=
  20 ≤ bs.length ∧ bs.length ≤ 276 ∧ leNat (bs.drop (bs.length - 4)) = (crc32 (bs.take (bs.length - 4))).toNat

/-- The kind and the form of a packet on arrival (R9, R11). -/
def arrivalLegal (p : Port) (x : Packet) : Prop :=
  match p with
  | .host _ => x.kindCode ∈ [1#8, 2#8, 3#8]
  | .target _ => x.kindCode ∈ [4#8, 5#8, 6#8] ∧ x.formOk = true

theorem arrivalSound_iff (bs : List Byte) : (!packetSizeOk bs || !integrityOk bs) = true ↔ ¬ arrivalSound bs := by
  simp only [packetSizeOk, integrityOk, arrivalSound, Bool.or_eq_true, Bool.not_eq_true', Bool.and_eq_false_iff,
    decide_eq_false_iff_not, beq_eq_false_iff_ne]
  tauto

theorem arrivalLegal_iff (p : Port) (x : Packet) : (kindLegalOn p x.kind && x.formOk) = true ↔ arrivalLegal p x := by
  rw [Bool.and_eq_true]
  cases p with
  | host h =>
    refine (and_congr_left fun _ => kindLegalOn_host h x.kindCode).trans ⟨And.left, fun hx => ⟨hx, Packet.formOk_of_request hx⟩⟩
  | target d => exact and_congr_left fun _ => kindLegalOn_target d x.kindCode

theorem arrivalFault_of_not_sound (p : Port) {bs : List Byte} (h : ¬ arrivalSound bs) :
    arrivalFault p bs = some { kind := .integrityError, port := p } := if_pos ((arrivalSound_iff bs).2 h)

theorem arrivalFault_of_sound (p : Port) {bs : List Byte} (h : arrivalSound bs) : arrivalFault p bs =
    if kindLegalOn p (parsePacket bs).kind && (parsePacket bs).formOk then none
    else some { kind := .malformedPacket, port := p, capture := some (parsePacket bs).capture } :=
  if_neg fun hn => (arrivalSound_iff bs).1 hn h

theorem arrivalReady_iff (p : Port) : ((s.link p).state.carries && (s.link p).hasIngressRoom) = true ↔
    ((s.link p).state = .up ∨ (s.link p).state = .isolated) ∧ (s.link p).ingress.length < 16 := by
  rw [Bool.and_eq_true, LinkState.carries_iff]
  exact and_congr_right fun _ => decide_eq_true_iff

theorem exec_linkPacketArrival_reported (p : Port) (bs : List Byte) {r : Report}
    (hr : ((s.link p).state.carries && (s.link p).hasIngressRoom) = true) (hf : arrivalFault p bs = some r) :
    exec (.linkPacketArrival p bs) s = .next (s.report [r]).settle := by
  change execLinkPacketArrival p bs s = _
  unfold execLinkPacketArrival
  rw [if_pos hr, hf]
  rfl

theorem exec_linkPacketArrival_queued (p : Port) (bs : List Byte)
    (hr : ((s.link p).state.carries && (s.link p).hasIngressRoom) = true) (hf : arrivalFault p bs = none) :
    exec (.linkPacketArrival p bs) s = .next (s.enqueue p (parsePacket bs)).settle := by
  change execLinkPacketArrival p bs s = _
  unfold execLinkPacketArrival
  rw [if_pos hr, hf]
  rfl

/-- An arriving packet changes the port's ingress queue and at most the port's head condition. -/
theorem State.enqueue_eq (p : Port) (x : Packet) : s.enqueue p x =
    { s.setLink p (fun u => { u with ingress := u.ingress ++ [x] }) with admission := (s.enqueue p x).admission } := by
  cases p with
  | target d => rfl
  | host h =>
    unfold State.enqueue
    simp only
    split <;> rfl

theorem State.enqueue_passDue (p : Port) (x : Packet) : (s.enqueue p x).admission.passDue = s.admission.passDue := by
  cases p with
  | target d => rfl
  | host h =>
    unfold State.enqueue
    simp only
    split <;> rfl

theorem State.enqueue_head (p : Port) (x : Packet) (h : HPort) : (s.enqueue p x).admission.heads[h] =
    if p = .host h ∧ s.hostUp h = true ∧ s.admission.heads[h] = .noHead then .presented else s.admission.heads[h] := by
  cases p with
  | target d => rw [if_neg (by simp)]; rfl
  | host k =>
    have hup : (s.setLink (.host k) fun u => { u with ingress := u.ingress ++ [x] }).hostUp k = s.hostUp k := by
      simp [State.hostUp, State.setLink, State.setHost]
    unfold State.enqueue
    simp only
    rw [hup, State.setLink_admission]
    by_cases hk : k = h
    · subst hk
      by_cases hc : s.admission.heads[k] = .noHead ∧ s.hostUp k = true
      · rw [if_pos hc, if_pos ⟨rfl, hc.2, hc.1⟩]
        exact State.setHead_self _ k _
      · rw [if_neg hc, if_neg fun h' => hc ⟨h'.2.2, h'.2.1⟩, State.setLink_admission]
    · refine Eq.trans ?_ (if_neg fun h' => hk (Port.host.inj h'.1)).symm
      split
      · exact State.setHead_other _ k h _ (Ne.symm hk)
      · rfl

/-- Settles O10: the checks come in the order of `arrivalFault`, and a packet that passes them is only queued. -/
theorem arrivingPacketIsQueuedOrReported : Obligations.ArrivingPacketIsQueuedOrReported := by
  intro p bs s
  have hready := arrivalReady_iff s p
  refine ⟨fun h => if_neg fun hr => h (hready.1 hr), fun hr hn => ?_, fun hr hs hn => ?_, fun hr hs hl hd => ?_⟩
  · exact exec_linkPacketArrival_reported s p bs (hready.2 hr) (arrivalFault_of_not_sound p hn)
  · refine exec_linkPacketArrival_reported s p bs (hready.2 hr) ((arrivalFault_of_sound p hs).trans (if_neg fun hc => hn ?_))
    have := (arrivalLegal_iff p _).1 hc
    cases p <;> exact this
  · have hlegal : arrivalLegal p (parsePacket bs) := by cases p <;> exact hl
    have hf : arrivalFault p bs = none := (arrivalFault_of_sound p hs).trans (if_pos ((arrivalLegal_iff p _).2 hlegal))
    have hexec := exec_linkPacketArrival_queued s p bs (hready.2 hr) hf
    rw [State.settle_of_not_due _ ((s.enqueue_passDue p _).trans hd)] at hexec
    have heq := s.enqueue_eq p (parsePacket bs)
    have hlink : ∀ q, (s.enqueue p (parsePacket bs)).link q =
        (s.setLink p fun u => { u with ingress := u.ingress ++ [parsePacket bs] }).link q := fun q => by
      rw [heq]
      cases q <;> rfl
    refine ⟨_, hexec, ?_, ?_, ?_, ?_, ?_, ?_, ?_, fun q hq => ?_, s.enqueue_head p _⟩
    · rw [hlink, State.link_setLink]
    · rw [hlink, State.link_setLink]
    · rw [heq]; exact State.setLink_tracker s p _
    · rw [heq]; exact State.setLink_recorder s p _
    · rw [heq]; exact State.setLink_banks s p _
    · rw [heq]; exact State.setLink_mgmt s p _
    · rw [heq]; exact State.setLink_notifier s p _
    · rw [hlink, State.link_setLink_of_ne s hq]

/-! ## Acceptance by the partner -/

theorem exec_partnerAcceptsPacket (p : Port) {x : Packet} {rest : List Packet}
    (hc : (s.link p).state = .up ∨ (s.link p).state = .isolated) (he : (s.link p).egress = x :: rest) :
    exec (.partnerAcceptsPacket p) s = .next (((s.setLink p fun u => { u with egress := rest }).accepted p x)).settle := by
  change execPartnerAcceptsPacket p s = _
  unfold execPartnerAcceptsPacket
  rw [(LinkState.carries_iff _).2 hc, he]
  rfl

theorem State.markSent_of_not_request (d : DPort) {x : Packet} (h1 : x.kind ≠ some .rdq) (h2 : x.kind ≠ some .waq) :
    s.markSent d x = s := if_neg (not_or.2 ⟨h1, h2⟩)

/-- The entry and the phase that a D-tag names (R128). -/
theorem tag_names {t : Byte} {e : EntryIx} {b : Bool} (h : t.toNat = 2 * e.val + b.toNat) : tagEntry t = e ∧ tagPhase t = b := by
  have hb : b.toNat ≤ 1 := Bool.toNat_le b
  refine ⟨Fin.ext ?_, ?_⟩
  · change t.toNat / 2 = e.val
    omega
  · change (t.toNat % 2 == 1) = b
    have hmod : t.toNat % 2 = b.toNat := by omega
    rw [hmod]
    cases b <;> rfl

theorem State.setEntry_congr (e : EntryIx) {f g : Entry → Entry} (h : f s.tracker.ort[e] = g s.tracker.ort[e]) :
    s.setEntry e f = s.setEntry e g := by
  unfold State.setEntry
  rw [h]

theorem State.markSent_of_request (d : DPort) {x : Packet} {e : EntryIx} (hk : x.kind = some .rdq ∨ x.kind = some .waq)
    (ht : x.tag.toNat = 2 * e.val + (s.tracker.ort[e]).phase.toNat) (hw : (s.tracker.ort[e]).state = .waiting)
    (hd : (s.tracker.ort[e]).target = d) : s.markSent d x = s.setEntry e fun y => { y with sent := true } := by
  obtain ⟨he, hp⟩ := tag_names ht
  unfold State.markSent
  rw [if_pos hk, he]
  exact s.setEntry_congr e (if_pos ⟨hw, hd, hp.symm⟩)

/-- Settles O11: the packet leaves the queue, and the entry under its D-tag is the one marked. -/
theorem acceptedPacketLeavesTheEgressQueue : Obligations.AcceptedPacketLeavesTheEgressQueue := by
  refine ⟨fun h s x rest hc he hd => ?_, fun d s x rest hc he h1 h2 => ?_, fun d s x rest e hc he hk ht hw htgt => ?_⟩
  · rw [exec_partnerAcceptsPacket s (.host h) hc he, State.settle_of_not_due]
    · rfl
    · exact hd
  · rw [exec_partnerAcceptsPacket s (.target d) hc he]
    refine congrArg (fun u : State => Host.Outcome.next u.wake.settle) ?_
    exact State.markSent_of_not_request _ d h1 h2
  · rw [exec_partnerAcceptsPacket s (.target d) hc he]
    refine congrArg (fun u : State => Host.Outcome.next u.wake.settle) ?_
    exact State.markSent_of_request (s.setLink (.target d) fun u => { u with egress := rest }) d hk ht hw htgt

/-! ## The heads of isolated ports -/

theorem exec_isolatedHostHead (h : HPort) {x : Packet} {rest : List Packet} (hi : s.hosts[h].link.state = .isolated)
    (hq : s.hosts[h].link.ingress = x :: rest) : exec (.isolatedHostHead h) s = .next (s.takeIsolatedHead h x).settle := by
  change execIsolatedHostHead h s = _
  unfold execIsolatedHostHead
  rw [hi, hq]
  rfl

theorem exec_isolatedTargetHead (d : DPort) {x : Packet} {rest : List Packet} (hi : s.targets[d].link.state = .isolated)
    (hq : s.targets[d].link.ingress = x :: rest) :
    exec (.isolatedTargetHead d) s = .next (s.popIngress (.target d)).settle := by
  change execIsolatedTargetHead d s = _
  unfold execIsolatedTargetHead
  rw [hi, hq]
  rfl

theorem State.setHost_congr (h : HPort) {f g : HostPort → HostPort} (e : f s.hosts[h] = g s.hosts[h]) :
    s.setHost h f = s.setHost h g := by
  unfold State.setHost
  rw [e]

theorem State.setTarget_congr (d : DPort) {f g : TargetPort → TargetPort} (e : f s.targets[d] = g s.targets[d]) :
    s.setTarget d f = s.setTarget d g := by
  unfold State.setTarget
  rw [e]

theorem State.takeIsolatedHead_passDue (h : HPort) (p : Packet) :
    (s.takeIsolatedHead h p).admission.passDue = s.admission.passDue := by
  unfold State.takeIsolatedHead
  split
  · rfl
  · split <;> rfl

/-- Settles O12: the three fates of an isolated host's head are the branches of `takeIsolatedHead`. -/
theorem isolatedPortUnitTakesItsHeads : Obligations.IsolatedPortUnitTakesItsHeads := by
  refine ⟨fun h s x rest hi hq hd => ?_, fun d s x rest hi hq hd => ?_⟩
  · have hexec := exec_isolatedHostHead s h hi hq
    rw [State.settle_of_not_due _ ((s.takeIsolatedHead_passDue h x).trans hd)] at hexec
    refine ⟨fun hk => hexec.trans (congrArg _ ?_), fun hk hr => hexec.trans (congrArg _ ?_),
      fun hk hr => hexec.trans (congrArg _ ?_)⟩
    · rw [State.takeIsolatedHead, if_pos ((Packet.posted_iff x).2 hk)]
      change (s.setHost h fun y => { y with link := { y.link with ingress := y.link.ingress.tail } }) = _
      exact s.setHost_congr h (by simp only [hq, List.tail_cons])
    · rw [State.takeIsolatedHead, if_neg fun hp => hk ((Packet.posted_iff x).1 hp), if_pos hr]
      unfold State.placeHost State.popIngress
      rw [show ∀ u : State, ∀ f, u.setLink (.host h) f = u.setHost h fun y => { y with link := f y.link } from fun _ _ => rfl,
        State.setHost_setHost, State.setHost_setHost]
      exact s.setHost_congr h (by simp only [hq, List.tail_cons]; rfl)
    · rw [State.takeIsolatedHead, if_neg fun hp => hk ((Packet.posted_iff x).1 hp), if_neg (by rw [hr]; decide)]
  · rw [exec_isolatedTargetHead s d hi hq, State.settle_of_not_due]
    · refine congrArg _ ?_
      change (s.setTarget d fun y => { y with link := { y.link with ingress := y.link.ingress.tail } }) = _
      exact s.setTarget_congr d (by simp only [hq, List.tail_cons])
    · exact hd

end Sys2Proof.Machine

/-! PROOFS. Leaving UP (section 2.5): a host port's entries orphaned, a target port's entries purged. -/

namespace Sys2Proof.Machine

-- One proof at a time: side by side they take more memory than the check allows.
set_option Elab.async false

variable (s : State)

/-! ## Leaving UP at a host port -/

/-- The packet waiting at a target's ingress head is the host port's. -/
theorem Tracker.waitingFrom_isSome_iff (t : Tracker) (h : HPort) (d : DPort) :
    (t.waitingFrom h d).isSome = true ↔ (t.waiting[d]).map (·.host) = some h := by
  unfold Tracker.waitingFrom
  cases t.waiting[d] with
  | none => simp
  | some w =>
    by_cases hw : w.host = h <;> simp [Option.filter, hw]

/-- What stands once a host port has left UP, before its waiting answer is discarded. -/
theorem State.hostLeft_eq (h : HPort) (l : LinkState) : s.hostLeft h l = { s with
    hosts := s.hosts.set h { s.hosts[h] with link := { s.hosts[h].link.emptied with state := l }, isolatedWaits := false }
    targets := Vector.ofFn fun d : DPort =>
      if (s.tracker.waitingFrom h d).isSome then
        { s.targets[d] with link := { s.targets[d].link with ingress := s.targets[d].link.ingress.tail } }
      else s.targets[d]
    tracker := { s.tracker with
      waiting := Vector.ofFn fun d : DPort => if (s.tracker.waitingFrom h d).isSome then none else s.tracker.waiting[d]
      ort := Vector.ofFn fun e : EntryIx =>
        if (s.tracker.ort[e]).inFlight && (s.tracker.ort[e]).host == h then { s.tracker.ort[e] with orphaned := true }
        else s.tracker.ort[e]
      answers := s.tracker.answers.set h [] }
    mgmt := { s.mgmt with latches := s.mgmt.latches.set h none }
    notifier := if s.mgmt.supervisor = h then { s.notifier with copy := none } else s.notifier
    admission := { s.admission with heads := s.admission.heads.set h .noHead, passDue := true } } := by
  unfold State.hostLeft State.withdrawCopy
  split
  · next hs =>
    rw [if_pos (show s.mgmt.supervisor = h from hs)]
    rfl
  · next hs =>
    rw [if_neg (show ¬ s.mgmt.supervisor = h from hs)]
    rfl

/-- A discarded answer moves no head that is not HELD. -/
theorem State.leaveHeld_of_not_held {h : HPort} (hh : s.admission.heads[h] ≠ .held) : s.leaveHeld h = s := if_neg hh

theorem State.freeUnit_of_not_held {h : HPort} (hh : s.admission.heads[h] ≠ .held) : s.freeUnit h = s.unitFreed.wake := by
  rw [State.freeUnit_eq, State.leaveHeld_of_not_held s.unitFreed hh]

/-- What a discarded answer keeps of the heads and the latches. -/
theorem State.discardAnswer_keeps (h : HPort) (hh : s.admission.heads[h] ≠ .held) :
    (s.discardAnswer h).admission.heads = s.admission.heads ∧ (s.discardAnswer h).mgmt.latches = s.mgmt.latches := by
  have hfree : ∀ u : State, u.admission.heads = s.admission.heads → u.mgmt.latches = s.mgmt.latches →
      (u.freeUnit h).admission.heads = s.admission.heads ∧ (u.freeUnit h).mgmt.latches = s.mgmt.latches := fun u h1 h2 => by
    rw [u.freeUnit_of_not_held (by rw [h1]; exact hh)]
    exact ⟨h1, h2⟩
  have hself : ∀ (a : Access) (x : Option SelfAction), a.port = h →
      ((s.clearAnswer h).completeSelf a x).admission.heads = s.admission.heads ∧
        ((s.clearAnswer h).completeSelf a x).mgmt.latches = s.mgmt.latches := fun a x ha => by
    unfold State.completeSelf
    simp only
    rw [ha]
    split
    · exact hfree _ rfl rfl
    · exact hfree _ rfl rfl
  unfold State.discardAnswer
  split
  · exact ⟨rfl, rfl⟩
  · unfold State.answerGone
    split
    · split
      · next ha => exact hself _ _ ha
      · exact ⟨rfl, rfl⟩
    · exact ⟨rfl, rfl⟩

theorem State.hostLeft_head (h : HPort) (l : LinkState) : (s.hostLeft h l).admission.heads[h] = .noHead := by
  rw [State.hostLeft_eq]
  simp

theorem State.hostLeavesUp_onlyUnit (h : HPort) (l : LinkState) : OnlyUnit (s.hostLeft h l) (s.hostLeavesUp h l) := by
  rw [State.hostLeavesUp_eq]
  split
  · exact State.discardAnswer_onlyUnit _ h
  · rfl

theorem State.hostLeavesUp_keeps (h : HPort) (l : LinkState) :
    (s.hostLeavesUp h l).admission.heads = (s.hostLeft h l).admission.heads ∧
      (s.hostLeavesUp h l).mgmt.latches = (s.hostLeft h l).mgmt.latches := by
  rw [State.hostLeavesUp_eq]
  split
  · exact State.discardAnswer_keeps _ h (by rw [State.hostLeft_head]; exact nofun)
  · exact ⟨rfl, rfl⟩

theorem OnlyUnit.kept {s t : State} (h : OnlyUnit s t) : t.hosts = s.hosts ∧ t.targets = s.targets ∧
    t.tracker = s.tracker ∧ t.banks = s.banks ∧ t.commit = s.commit ∧ t.recorder = s.recorder := by
  rw [h]
  exact ⟨rfl, rfl, rfl, rfl, rfl, rfl⟩

theorem State.hostLeft_hostCount (h : HPort) (l : LinkState) : (s.hostLeft h l).tracker.hostCount h = 0 := by
  unfold Tracker.hostCount
  rw [State.hostLeft_eq, Vector.countP_toList_eq, List.countP_eq_zero]
  intro e _
  simp only [Fin.getElem_fin, Vector.getElem_ofFn]
  split
  · simp [Entry.countsForHost]
  · next hn =>
    simp only [Entry.countsForHost]
    grind

/-- A vector's other elements after one is set. -/
theorem Vector.getElem_set_fin_ne {α : Type} {n : Nat} (v : Vector α n) (i j : Fin n) (x : α) (h : j ≠ i) :
    (v.set i x)[j] = v[j] := by
  have : i.val ≠ j.val := fun e => h (Fin.ext e.symm)
  simp [Vector.getElem_set_ne, this]

/-- Settles O9, first part: leaving UP is `hostLeft` and at most the discarding of the answer. -/
theorem hostLeavesUp_effects (h : HPort) (l : LinkState) {t : State} (ht : t = s.hostLeavesUp h l) :
    t.hosts[h].link.state = l ∧ t.hosts[h].link.ingress = [] ∧ t.hosts[h].link.egress = [] ∧
    t.admission.heads[h] = .noHead ∧ t.tracker.answers[h] = [] ∧ t.mgmt.latches[h] = none ∧
    t.tracker.hostCount h = 0 ∧ t.recorder = s.recorder ∧ t.banks = s.banks ∧ t.commit = s.commit ∧
    (∀ g : HPort, g ≠ h → t.hosts[g] = s.hosts[g] ∧ t.admission.heads[g] = s.admission.heads[g] ∧
      t.tracker.answers[g] = s.tracker.answers[g] ∧ t.mgmt.latches[g] = s.mgmt.latches[g]) ∧
    (∀ e : EntryIx, t.tracker.ort[e] = { s.tracker.ort[e] with
      orphaned := (s.tracker.ort[e]).orphaned || ((s.tracker.ort[e]).inFlight && (s.tracker.ort[e]).host == h) }) ∧
    (∀ d : DPort, t.tracker.waiting[d] =
        (if ((s.tracker.waiting[d]).map (·.host)) = some h then none else s.tracker.waiting[d]) ∧
      t.targets[d].link.ingress = (if ((s.tracker.waiting[d]).map (·.host)) = some h then
        s.targets[d].link.ingress.tail else s.targets[d].link.ingress) ∧
      t.targets[d].link.egress = s.targets[d].link.egress ∧ t.targets[d].link.state = s.targets[d].link.state) := by
  obtain ⟨hheads, hlatches⟩ := s.hostLeavesUp_keeps h l
  obtain ⟨hhosts, htargets, htracker, hbanks, hcommit, hrec⟩ := (s.hostLeavesUp_onlyUnit h l).kept
  have hcount := s.hostLeft_hostCount h l
  have heq := s.hostLeft_eq h l
  subst ht
  rw [hheads, hlatches, hhosts, htargets, htracker, hbanks, hcommit, hrec]
  refine ⟨?_, ?_, ?_, s.hostLeft_head h l, ?_, ?_, hcount, ?_, ?_, ?_, fun g hg => ?_, fun e => ?_, fun d => ?_⟩
  · rw [heq]; simp
  · rw [heq]; simp [PortUnit.emptied]
  · rw [heq]; simp [PortUnit.emptied]
  · rw [heq]; simp
  · rw [heq]; simp
  · rw [heq]
  · rw [heq]
  · rw [heq]
  · rw [heq]
    exact ⟨Vector.getElem_set_fin_ne _ _ _ _ hg, Vector.getElem_set_fin_ne _ _ _ _ hg, Vector.getElem_set_fin_ne _ _ _ _ hg,
      Vector.getElem_set_fin_ne _ _ _ _ hg⟩
  · rw [heq]
    simp only [Fin.getElem_fin, Vector.getElem_ofFn]
    split
    · next hc => rw [hc, Bool.or_true]
    · next hc => rw [Bool.not_eq_true] at hc; rw [hc, Bool.or_false]
  · have hiff := s.tracker.waitingFrom_isSome_iff h d
    rw [heq]
    simp only [Fin.getElem_fin, Vector.getElem_ofFn, Fin.eta]
    refine ⟨if_congr hiff rfl rfl, ?_, ?_, ?_⟩
    · exact (apply_ite (fun x : TargetPort => x.link.ingress) _ _ _).trans (if_congr hiff rfl rfl)
    · split <;> rfl
    · split <;> rfl

/-- A host port taken down from UP leaves UP first (R20, R26, R27). -/
theorem State.takeDown_host_of_up (h : HPort) (l : LinkState) (hu : s.hosts[h].link.state = .up) : s.takeDown (.host h) l =
    ((s.leavesUp (.host h) l).setHost h fun x => { x with link := x.link.closed l, isolatedWaits := false }).discardAnswer h := by
  have hleft : s.leftUp (.host h) l = s.leavesUp (.host h) l := if_pos hu
  rw [State.takeDown_host, hleft]
  refine congrArg (State.discardAnswer · h) ?_
  exact State.setHost_setHost _ h (fun x => { x with link := x.link.closed l }) fun x => { x with isolatedWaits := false }

/-- Settles O9: leaving UP is `hostLeft` and at most the discarding of the answer, which completes only an access that
waits for it. -/
theorem leavingUpOrphansAHost : Obligations.LeavingUpOrphansAHost := by
  refine ⟨fun s h l _ => ?_, fun s h => ⟨fun hn => ?_, fun p hp hno => ?_, fun p a x hp hu ha hx => ?_⟩⟩
  · obtain ⟨h1, h2, h3, h4, h5, h6, h7, h8, h9, h10, h11, h12, h13⟩ := hostLeavesUp_effects s h l rfl
    exact ⟨h1, h2, h3, h4, h5, h6, h7, h8, h9, h10, State.sameSettings_of_fixed (s.hostLeavesUp_fixed h l), h11, h12, h13,
      s.takeDown_host_of_up h l⟩
  · unfold State.discardAnswer
    rw [hn]
  · unfold State.discardAnswer
    rw [hp]
    change (s.clearAnswer h).answerGone h = s.clearAnswer h
    unfold State.answerGone
    split
    · next b act hu => rw [if_neg (hno b act hu)]
    · rfl
  · unfold State.discardAnswer
    rw [hp]
    change (s.clearAnswer h).answerGone h = _
    unfold State.answerGone
    rw [State.clearAnswer_mgmt_unit, hu]
    simp only
    rw [if_pos ha, State.completeSelf]
    simp only
    rw [if_neg hx, ha]
    rfl

end Sys2Proof.Machine

/-! PROOFS. The purge of a target port that leaves UP (R158). -/

namespace Sys2Proof.Machine

-- One proof at a time: side by side they take more memory than the check allows.
set_option Elab.async false

variable (s : State)

/-! ## What placing a packet of the tracker leaves alone -/

/-- The states differ at most in ports, tracker and admission. -/
def OnlyTraffic (s t : State) : Prop :=
  t = { s with hosts := t.hosts, targets := t.targets, tracker := t.tracker, admission := t.admission }

theorem OnlyTraffic.trans {s t u : State} (h : OnlyTraffic s t) (k : OnlyTraffic t u) : OnlyTraffic s u := by
  unfold OnlyTraffic at *
  rw [k, h]

theorem OnlyTraffic.kept {s t : State} (h : OnlyTraffic s t) : t.recorder = s.recorder ∧ t.mgmt = s.mgmt ∧
    t.banks = s.banks ∧ t.commit = s.commit ∧ t.notifier = s.notifier := by
  rw [h]
  exact ⟨rfl, rfl, rfl, rfl, rfl⟩

/-- What placing the tracker's next packet for host port `h` keeps. -/
structure PlacesFor (h : HPort) (s t : State) : Prop where
  traffic : OnlyTraffic s t
  ort : t.tracker.ort = s.tracker.ort
  link : ∀ d : DPort, (s.link (.target d)).ingress = [] → t.link (.target d) = s.link (.target d)
  waiting : ∀ d : DPort, s.tracker.waiting[d] = none → t.tracker.waiting[d] = none
  answers : ∀ k : HPort, k ≠ h → t.tracker.answers[k] = s.tracker.answers[k]
  room : ∀ k : HPort, s.hostHasRoom k = false → t.hostHasRoom k = false

theorem PlacesFor.refl (h : HPort) : PlacesFor h s s := ⟨rfl, rfl, fun _ _ => rfl, fun _ => id, fun _ _ => rfl, fun _ => id⟩

theorem State.placeHost_room (h k : HPort) (c : EgressClass) (p : Packet) (hk : s.hostHasRoom k = false) :
    (s.placeHost h c p).hostHasRoom k = false := by
  by_cases e : k = h
  · subst e
    have : ((s.placeHost k c p).hosts[k]).link = { s.hosts[k].link with egress := s.hosts[k].link.egress ++ [p] } := by
      simp [State.placeHost, State.setHost]
    unfold State.hostHasRoom at hk ⊢
    rw [this]
    rw [Bool.and_eq_false_iff] at hk ⊢
    refine hk.imp id fun hlen => ?_
    rw [decide_eq_false_iff_not] at hlen ⊢
    rw [List.length_append]
    omega
  · have : ((s.placeHost h c p).hosts[k]) = s.hosts[k] := Vector.getElem_set_fin_ne _ _ _ _ e
    unfold State.hostHasRoom at hk ⊢
    rw [this]
    exact hk

theorem State.placeTracker_places (h : HPort) : PlacesFor h s (s.placeTracker h) := by
  unfold State.placeTracker
  split
  · split
    · exact .refl s h
    · next d p _ =>
      refine ⟨rfl, rfl, fun e he => ?_, fun e he => ?_, fun k hk => rfl, fun k hk => s.placeHost_room h k _ _ hk⟩
      · change (State.setLink _ (.target d) _).link (.target e) = _
        by_cases hd : e = d
        · subst hd
          rw [State.link_setLink]
          change { s.link (.target e) with ingress := (s.link (.target e)).ingress.tail } = _
          rw [he, List.tail_nil, ← he]
        · rw [State.link_setLink_of_ne _ fun hc => hd (Port.target.inj hc)]
          rfl
      · change (s.tracker.waiting.set d none)[e] = none
        by_cases hd : e = d
        · subst hd; simp
        · rw [Vector.getElem_set_fin_ne _ _ _ _ hd]; exact he
    · next d a _ =>
      exact ⟨rfl, rfl, fun _ _ => rfl, fun _ he => he, fun k hk => Vector.getElem_set_fin_ne _ _ _ _ hk,
        fun k hk => s.placeHost_room h k _ _ hk⟩
  · exact .refl s h

theorem State.placeTracker_of_no_room {h : HPort} (hr : s.hostHasRoom h = false) : s.placeTracker h = s := by
  have hg : ¬ s.givesRoom h .tracker = true := by
    unfold State.givesRoom
    rw [hr, Bool.false_and]
    exact nofun
  exact if_neg hg

/-- The answer list with the new answer at its tail, before a place is given (R154). -/
def State.withAnswer (s : State) (h : HPort) (tag : Byte) (st : Status) (d : DPort) : State :=
  { s with tracker := { s.tracker with
      answers := s.tracker.answers.set h (s.tracker.answers[h] ++
        [{ hostTag := tag, status := st, target := d, order := s.tracker.nextOrder }])
      nextOrder := s.tracker.nextOrder + 1 } }

theorem State.appendAnswer_eq (h : HPort) (tag : Byte) (st : Status) (d : DPort) :
    s.appendAnswer h tag st d = (s.withAnswer h tag st d).placeTracker h := rfl

theorem State.appendAnswer_places (h : HPort) (tag : Byte) (st : Status) (d : DPort) :
    PlacesFor h s (s.appendAnswer h tag st d) := by
  rw [State.appendAnswer_eq]
  have hp := (s.withAnswer h tag st d).placeTracker_places h
  exact ⟨OnlyTraffic.trans (t := s.withAnswer h tag st d) rfl hp.traffic, hp.ort, hp.link, hp.waiting,
    fun k hk => (hp.answers k hk).trans (Vector.getElem_set_fin_ne _ _ _ _ hk), hp.room⟩

/-- What an answer list shows of its items, but for their place in the order of production. -/
def shown (l : List AnswerItem) : List (Byte × Status × DPort) := l.map fun i => (i.hostTag, i.status, i.target)

theorem State.appendAnswer_shown (h k : HPort) (tag : Byte) (st : Status) (d : DPort) (hk : s.hostHasRoom k = false) :
    shown (s.appendAnswer h tag st d).tracker.answers[k] =
      shown s.tracker.answers[k] ++ if h = k then [(tag, st, d)] else [] := by
  by_cases e : h = k
  · subst e
    rw [State.appendAnswer_eq, State.placeTracker_of_no_room _ (show (s.withAnswer h tag st d).hostHasRoom h = false from hk),
      if_pos rfl]
    simp [State.withAnswer, shown]
  · rw [if_neg e, List.append_nil, (s.appendAnswer_places h tag st d).answers k (Ne.symm e)]

/-! ## The answers of a purge -/

theorem State.answerAll_cons (d : DPort) (x : HPort × Byte) (l : List (HPort × Byte)) :
    s.answerAll d (x :: l) = (s.appendAnswer x.1 x.2 .unreachable d).answerAll d l := rfl

/-- What a purge's answers leave alone. -/
theorem State.answerAll_traffic (d : DPort) (l : List (HPort × Byte)) : OnlyTraffic s (s.answerAll d l) := by
  induction l generalizing s with
  | nil => rfl
  | cons x l ih => exact (s.appendAnswer_places x.1 x.2 .unreachable d).traffic.trans (ih _)

theorem State.answerAll_ort (d : DPort) (l : List (HPort × Byte)) : (s.answerAll d l).tracker.ort = s.tracker.ort := by
  induction l generalizing s with
  | nil => rfl
  | cons x l ih => exact (ih _).trans (s.appendAnswer_places x.1 x.2 .unreachable d).ort

theorem State.answerAll_link (d e : DPort) (l : List (HPort × Byte)) (he : (s.link (.target e)).ingress = []) :
    (s.answerAll d l).link (.target e) = s.link (.target e) := by
  induction l generalizing s with
  | nil => rfl
  | cons x l ih =>
    have hx := (s.appendAnswer_places x.1 x.2 .unreachable d).link e he
    exact (ih _ (by rw [hx]; exact he)).trans hx

theorem State.answerAll_waiting (d e : DPort) (l : List (HPort × Byte)) (he : s.tracker.waiting[e] = none) :
    (s.answerAll d l).tracker.waiting[e] = none := by
  induction l generalizing s with
  | nil => exact he
  | cons x l ih => exact ih _ ((s.appendAnswer_places x.1 x.2 .unreachable d).waiting e he)

/-- Each answer of a purge joins the tail of its own host's list (R154, R158). -/
theorem State.answerAll_shown (d : DPort) (l : List (HPort × Byte)) (k : HPort) (hk : s.hostHasRoom k = false) :
    shown (s.answerAll d l).tracker.answers[k] =
      shown s.tracker.answers[k] ++ (l.filter fun x => x.1 == k).map fun x => (x.2, .unreachable, d) := by
  induction l generalizing s with
  | nil => simp [State.answerAll]
  | cons x l ih =>
    rw [State.answerAll_cons, ih _ ((s.appendAnswer_places x.1 x.2 .unreachable d).room k hk), s.appendAnswer_shown x.1 k _ _ d hk,
      List.append_assoc, List.filter_cons]
    by_cases e : x.1 = k <;> simp [e]

/-! ## The recorder at a report -/

theorem State.notice_recorder (k : FaultKind) (p : Port) (q : Seq) : (s.notice k p q).recorder = s.recorder := by
  unfold State.notice
  split
  · unfold State.appendItem State.sendNotification
    split
    · split <;> rfl
    · rfl
  · rfl

/-- What the recorder keeps of a report, by the class of its kind (R167). -/
theorem State.takeReport_recorder (r : Report) : (s.takeReport r).recorder =
    match s.classOf r.kind with
    | .ignore => s.recorder
    | .record => s.recorder.enqueue (s.formRecord r (s.reportOutcome r))
    | .notify | .isolate => (s.recorder.enqueue (s.formRecord r (s.reportOutcome r))).snap
        (s.formRecord r (s.reportOutcome r)) r.capture := by
  have hiso : (s.isolatedBy r).recorder = s.recorder := by
    unfold State.isolatedBy
    split
    · exact s.setLink_recorder _ _
    · rfl
  unfold State.takeReport
  simp only
  change (match s.classOf r.kind with
    | .ignore => s.isolatedBy r
    | .record => (s.isolatedBy r).queueRecord (s.formRecord r (s.reportOutcome r))
    | .notify => ((s.isolatedBy r).queueRecord (s.formRecord r (s.reportOutcome r))).snapAndNotice
        (s.formRecord r (s.reportOutcome r)) r.capture
    | .isolate => ((s.isolatedBy r).queueRecord (s.formRecord r (s.reportOutcome r))).snapAndNotice
        (s.formRecord r (s.reportOutcome r)) r.capture).recorder = _
  have hsnap : ∀ u : State, ∀ f c, (u.snapAndNotice f c).recorder = u.recorder.snap f c := fun u f c => State.notice_recorder _ _ _ _
  have hqueue : ∀ f, ((s.isolatedBy r).queueRecord f).recorder = s.recorder.enqueue f := fun f => by
    rw [← hiso]; rfl
  cases s.classOf r.kind with
  | ignore => exact hiso
  | record => exact hqueue _
  | notify => exact (hsnap _ _ _).trans (by rw [hqueue])
  | isolate => exact (hsnap _ _ _).trans (by rw [hqueue])

theorem Recorder.enqueue_queue {r : Recorder} (f : FaultRecord) (h : r.queue.length < 16) :
    (r.enqueue f).queue = r.queue ++ [f] := by
  unfold Recorder.enqueue
  rw [if_pos (show r.queue.length < Config.faultQueueCapacity from h)]

/-- A report of a class that records without isolating appends its record as it stands (R167, R169). -/
theorem State.takeReport_queue {r : Report} (hc : s.classOf r.kind = .record ∨ s.classOf r.kind = .notify)
    (hl : s.recorder.queue.length < 16) : (s.takeReport r).recorder.queue =
      s.recorder.queue ++ [s.formRecord r .noEffect] := by
  have ho : s.reportOutcome r = .noEffect := if_neg (by rcases hc with h | h <;> rw [h] <;> exact nofun)
  rw [State.takeReport_recorder, ho]
  rcases hc with h | h <;> rw [h]
  · exact Recorder.enqueue_queue _ hl
  · exact (Recorder.snap_queue _ _ _).trans (Recorder.enqueue_queue _ hl)

/-! ## The purge -/

theorem State.drainCheck_keeps : s.drainCheck.tracker = s.tracker ∧ s.drainCheck.recorder = s.recorder := by
  unfold State.drainCheck
  split <;> exact ⟨rfl, rfl⟩

theorem Entry.purged_iff (e : Entry) (d : DPort) : (e.state != .free && e.target == d) = true ↔ e.state ≠ .free ∧ e.target = d := by
  simp

/-- The purged state, spelled out. -/
theorem State.purged_eq (d : DPort) (l : LinkState) : s.purged d l = { s with
    targets := s.targets.set d { s.targets[d] with link := { s.targets[d].link with state := l, ingress := [], egress := [] } }
    tracker := { s.tracker with
      ort := Vector.ofFn fun e : EntryIx =>
        if (s.tracker.ort[e]).state ≠ .free ∧ (s.tracker.ort[e]).target = d then
          { s.tracker.ort[e] with state := .free, deadline := none, quarantine := none }
        else s.tracker.ort[e]
      waiting := s.tracker.waiting.set d none }
    admission := { s.admission with passDue := true } } := by
  have hort : (Vector.ofFn fun e : EntryIx =>
      if (s.tracker.ort[e]).state != .free && (s.tracker.ort[e]).target == d then (s.tracker.ort[e]).freed else s.tracker.ort[e]) =
      Vector.ofFn fun e : EntryIx =>
        if (s.tracker.ort[e]).state ≠ .free ∧ (s.tracker.ort[e]).target = d then
          { s.tracker.ort[e] with state := .free, deadline := none, quarantine := none }
        else s.tracker.ort[e] :=
    congrArg Vector.ofFn (funext fun e => if_congr (Entry.purged_iff _ d) rfl rfl)
  rw [← hort]
  rfl

theorem State.headAnswer_eq (d : DPort) : s.headAnswer d =
    match s.tracker.waiting[d] with
    | some w => if w.packet.final = true ∧ s.hosts[w.host].link.state = .up then [(w.host, w.packet.tag)] else []
    | none => [] := by
  unfold State.headAnswer
  split
  · next w hw =>
    rw [hw]
    exact if_congr ((Bool.and_eq_true _ _).to_iff.trans (and_congr_right fun _ => s.hostUp_iff _)) rfl rfl
  · next hw => rw [hw]

/-- What a target port's leaving UP leaves of it, of the tracker and of the recorder. -/
theorem State.targetLeavesUp_effects (d : DPort) (l : LinkState) (hl : l ≠ .up) {t : State}
    (ht : t = s.targetLeavesUp d l) :
    t.targets[d].link = { s.targets[d].link with state := l, ingress := [], egress := [] } ∧
    t.tracker = (s.purgedAndAnswered d l).tracker ∧
    t.recorder = if s.tracker.heldBy d ≠ 0 || !s.targets[d].link.ingress.isEmpty || !s.targets[d].link.egress.isEmpty then
      ((s.purgedAndAnswered d l).takeReport (purgeReport d (s.tracker.heldBy d))).recorder else s.recorder := by
  have hpurged : (s.purged d l).link (.target d) = { s.targets[d].link with state := l, ingress := [], egress := [] } :=
    s.link_setLink (.target d) fun u => { u.emptied with state := l }
  have hanswered : (s.purgedAndAnswered d l).link (.target d) = _ :=
    (State.answerAll_link _ d d _ (by rw [hpurged])).trans hpurged
  have hrec : (s.purgedAndAnswered d l).recorder = s.recorder := (State.answerAll_traffic (s.purged d l) d _).kept.1
  have heq : t = (if s.tracker.heldBy d ≠ 0 || !s.targets[d].link.ingress.isEmpty || !s.targets[d].link.egress.isEmpty then
      (s.purgedAndAnswered d l).takeReport (purgeReport d (s.tracker.heldBy d)) else s.purgedAndAnswered d l).drainCheck := ht
  have hno : (s.purgedAndAnswered d l).reportOutcome (purgeReport d (s.tracker.heldBy d)) ≠ .carriedOut :=
    State.reportOutcome_of_not_up (by
      change ((s.purgedAndAnswered d l).link (.target d)).state ≠ .up
      rw [hanswered]
      exact hl)
  have honly : OnlyReports (s.purgedAndAnswered d l)
      ((s.purgedAndAnswered d l).takeReport (purgeReport d (s.tracker.heldBy d))) := by
    have := (s.purgedAndAnswered d l).takeReport_onlyReports (purgeReport d (s.tracker.heldBy d))
    rwa [State.isolatedBy, if_neg hno] at this
  rw [heq, (State.drainCheck_keeps _).1, (State.drainCheck_keeps _).2]
  have hlink : ∀ u : State, u.drainCheck.targets[d].link = u.link (.target d) := fun u => u.drainCheck_link (.target d)
  rw [hlink]
  split
  · refine ⟨Eq.trans ?_ hanswered, honly.tracker, rfl⟩
    change ((s.purgedAndAnswered d l).takeReport _).targets[d].link = _
    rw [honly.targets]
    rfl
  · exact ⟨hanswered, rfl, hrec⟩

theorem State.purge_reports_iff (d : DPort) :
    (s.tracker.heldBy d ≠ 0 || !s.targets[d].link.ingress.isEmpty || !s.targets[d].link.egress.isEmpty) = true ↔
      s.tracker.heldBy d ≠ 0 ∨ s.targets[d].link.ingress ≠ [] ∨ s.targets[d].link.egress ≠ [] := by
  simp [or_assoc]

/-- The record of a purge's report: the purge's answers change nothing that a record shows. -/
theorem State.purge_queue (d : DPort) (l : LinkState)
    (hc : s.classOf .linkLost = .record ∨ s.classOf .linkLost = .notify) (hq : s.recorder.queue.length < 16) :
    ((s.purgedAndAnswered d l).takeReport (purgeReport d (s.tracker.heldBy d))).recorder.queue = s.recorder.queue ++
      [{ sequence := s.recorder.sequence, kind := .linkLost, port := .target d, entry := none, hostTag := none,
         window := none, address := none, generation := s.banks.generation, detail := .count (s.tracker.heldBy d) }] := by
  obtain ⟨hrec, hmgmt, hbanks, -⟩ := (State.answerAll_traffic (s.purged d l) d (s.purgeOwes d)).kept
  have hrec' : (s.purgedAndAnswered d l).recorder = s.recorder := hrec
  have hbanks' : (s.purgedAndAnswered d l).banks = s.banks := hbanks
  have hclass : ∀ k, (s.purgedAndAnswered d l).classOf k = s.classOf k := fun k =>
    congrArg (fun m : Management => m.classes[k.code]) hmgmt
  have hrecord : (s.purgedAndAnswered d l).formRecord (purgeReport d (s.tracker.heldBy d)) .noEffect =
      s.formRecord (purgeReport d (s.tracker.heldBy d)) .noEffect := by
    unfold State.formRecord
    rw [hrec', hbanks']
  rw [State.takeReport_queue _ (by rw [hclass]; exact hc) (by rw [hrec']; exact hq), hrecord, hrec']
  rfl

/-- Settles O8: the purge frees, answers and reports in that order, and nothing after it touches what it did. -/
theorem leavingUpPurgesATarget : Obligations.LeavingUpPurgesATarget := by
  refine ⟨fun s d l hl => ?_, fun s h tag st d => rfl⟩
  intro t u held purged owed answered
  have hpurged : purged = s.purged d l := (s.purged_eq d l).symm
  have howed : owed = s.purgeOwes d := congrArg (· ++ s.tracker.purgeAnswers d) (s.headAnswer_eq d).symm
  have hanswered : answered = s.purgedAndAnswered d l := by
    change purged.answerAll d owed = _
    rw [hpurged, howed]
    rfl
  have hcond := s.purge_reports_iff d
  obtain ⟨hlink, htracker, hrecorder⟩ := s.targetLeavesUp_effects d l hl (t := t) rfl
  have hwait : (s.purgedAndAnswered d l).tracker.waiting[d] = none :=
    State.answerAll_waiting _ d d _ (by rw [State.purged_waiting]; simp)
  have hshown := fun k hk => (s.purged d l).answerAll_shown d (s.purgeOwes d) k hk
  have hlists : (s.purged d l).tracker.answers = s.tracker.answers := s.purged_answers d l
  refine ⟨?_, ?_, ?_, ?_, ?_, ?_, State.sameSettings_of_fixed (s.targetLeavesUp_fixed d l), fun h hr => ?_, fun h0 hi he => ?_,
    fun hany hc hq => ?_, fun hu => ?_⟩
  · rw [hanswered]
    exact congrArg State.drainCheck (if_congr hcond rfl rfl)
  · rw [hlink]
  · rw [hlink]
  · rw [hlink]
  · rw [htracker]; exact hwait
  · rw [htracker, hpurged]; exact State.answerAll_ort _ d _
  · rw [htracker, howed, ← hlists]; exact hshown h hr
  · rw [hrecorder, if_neg fun hb => (hcond.1 hb).elim (· h0) fun hb => hb.elim (· hi) (· he)]
  · rw [hrecorder, if_pos (hcond.2 hany)]
    exact s.purge_queue d l hc hq
  · rw [State.takeDown_target, show s.leftUp (.target d) l = t from if_pos hu]

end Sys2Proof.Machine

/-! PROOFS. Lookup (chapters 3 and 4): the window that decides a classification, and the arithmetic of translation. -/

namespace Sys2Proof.Machine

-- One proof at a time: side by side they take more memory than the check allows.
set_option Elab.async false

/-! ## The selected window -/

/-- A search over all indices finds the least that meets the condition. -/
theorem find?_finRange_eq_some_iff {n : Nat} (p : Fin n → Bool) (i : Fin n) :
    (List.finRange n).find? p = some i ↔ p i = true ∧ ∀ j, j < i → p j = false := by
  rw [List.find?_eq_some_iff_getElem]
  constructor
  · rintro ⟨hi, k, hk, hki, hfirst⟩
    have hik : k = i.val := by simpa using congrArg Fin.val hki
    exact ⟨hi, fun j hj => by simpa using hfirst j.val (by rw [hik]; exact hj)⟩
  · rintro ⟨hi, hfirst⟩
    refine ⟨hi, i.val, by simp, by simp, fun j hj => ?_⟩
    simpa using hfirst ⟨j, by omega⟩ hj

theorem find?_finRange_eq_none_iff {n : Nat} (p : Fin n → Bool) :
    (List.finRange n).find? p = none ↔ ∀ j, p j = false := by
  simp

theorem blockOf_toNat (a : Addr) : (blockOf a).toNat = a.toNat / 2 ^ 20 := by
  have := a.isLt
  rw [blockOf, BitVec.extractLsb'_toNat, Nat.shiftRight_eq_div_pow, Nat.mod_eq_of_lt]
  omega

/-- No window of the class holds the block. -/
theorem Bank.candidate_eq_none_iff (b : Bank) (k : Block) (l : BitVec 2) : b.candidate k l = none ↔
    ∀ i : WinIx, (b.windows[i]).holds k = true → (b.windows[i]).level ≠ l := by
  unfold Bank.candidate
  rw [find?_finRange_eq_none_iff]
  exact forall_congr' fun i => by simp

/-- A class's candidate is the least window of the class that holds the block (R50). -/
theorem Bank.candidate_eq_some_iff (b : Bank) (k : Block) (l : BitVec 2) (i : WinIx) : b.candidate k l = some i ↔
    ((b.windows[i]).holds k = true ∧ (b.windows[i]).level = l) ∧
      ∀ j : WinIx, j < i → ¬ ((b.windows[j]).holds k = true ∧ (b.windows[j]).level = l) := by
  unfold Bank.candidate
  rw [find?_finRange_eq_some_iff]
  simp

/-- No class above `l` has a window that holds the block. -/
def Bank.NoneAbove (b : Bank) (k : Block) (l : BitVec 2) : Prop :=
  ∀ i : WinIx, (b.windows[i]).holds k = true → (b.windows[i]).level.toNat ≤ l.toNat

theorem Bank.NoneAbove.candidate {b : Bank} {k : Block} {l m : BitVec 2} (h : b.NoneAbove k l) (hm : l.toNat < m.toNat) :
    b.candidate k m = none := by
  rw [Bank.candidate_eq_none_iff]
  intro i hi he
  have := h i hi
  rw [he] at this
  omega

/-- The selection takes the class itself where no class above it has a candidate (R50). -/
theorem Bank.select_of_noneAbove {b : Bank} {k : Block} {l : BitVec 2} {i : WinIx} (h : b.NoneAbove k l)
    (hi : b.candidate k l = some i) : b.select k = some i := by
  have habove : ∀ m : BitVec 2, l.toNat < m.toNat → b.candidate k m = none := fun m hm => h.candidate hm
  have hl : ∀ m : BitVec 2, m = 0 ∨ m = 1 ∨ m = 2 ∨ m = 3 := by decide
  unfold Bank.select
  rcases hl l with rfl | rfl | rfl | rfl
  · rw [habove 3 (by decide), habove 2 (by decide), habove 1 (by decide), hi]; rfl
  · rw [habove 3 (by decide), habove 2 (by decide), hi]; rfl
  · rw [habove 3 (by decide), hi]; rfl
  · rw [hi]; rfl

/-- Nothing is selected exactly where no valid window holds the block. -/
theorem Bank.select_eq_none_iff (b : Bank) (k : Block) : b.select k = none ↔ ∀ i : WinIx, ¬ (b.windows[i]).holds k = true := by
  have hall : b.select k = none ↔ ∀ l : BitVec 2, b.candidate k l = none := by
    have hfour : (∀ l : BitVec 2, b.candidate k l = none) ↔ b.candidate k 3 = none ∧ b.candidate k 2 = none ∧
        b.candidate k 1 = none ∧ b.candidate k 0 = none := by
      refine ⟨fun h => ⟨h 3, h 2, h 1, h 0⟩, fun ⟨h3, h2, h1, h0⟩ l => ?_⟩
      have hl : ∀ l : BitVec 2, l = 0 ∨ l = 1 ∨ l = 2 ∨ l = 3 := by decide
      rcases hl l with rfl | rfl | rfl | rfl <;> assumption
    rw [hfour]
    unfold Bank.select
    simp
  rw [hall]
  refine ⟨fun h i hi => ?_, fun h l => (b.candidate_eq_none_iff k l).2 fun i hi => absurd hi (h i)⟩
  exact (b.candidate_eq_none_iff k _).1 (h (b.windows[i]).level) i hi rfl

/-- What is selected holds the block, and no window of a higher class does (R50). -/
theorem Bank.select_spec {b : Bank} {k : Block} {i : WinIx} (h : b.select k = some i) :
    (b.windows[i]).holds k = true ∧ b.NoneAbove k (b.windows[i]).level := by
  by_cases hex : ∃ m : WinIx, (b.windows[m]).holds k = true
  · obtain ⟨j, hj, hmax⟩ : ∃ j : WinIx, (b.windows[j]).holds k = true ∧ b.NoneAbove k (b.windows[j]).level := by
      have hfin : (Finset.univ.filter fun m : WinIx => (b.windows[m]).holds k = true).Nonempty := by
        obtain ⟨m, hm⟩ := hex
        exact ⟨m, by simpa using hm⟩
      obtain ⟨j, hj, hmax⟩ := Finset.exists_max_image _ (fun m : WinIx => (b.windows[m]).level.toNat) hfin
      exact ⟨j, by simpa using hj, fun m hm => hmax m (by simpa using hm)⟩
    obtain ⟨c, hc⟩ : ∃ c, b.candidate k (b.windows[j]).level = some c := by
      rw [← Option.ne_none_iff_exists']
      exact fun hn => (b.candidate_eq_none_iff k _).1 hn j hj rfl
    obtain ⟨⟨hholds, hlevel⟩, -⟩ := (b.candidate_eq_some_iff k _ c).1 hc
    have hic : i = c := Option.some.inj (h.symm.trans (Bank.select_of_noneAbove hmax hc))
    rw [hic, hlevel]
    exact ⟨hholds, hmax⟩
  · exact absurd ((b.select_eq_none_iff k).2 fun m hm => hex ⟨m, hm⟩) (by rw [h]; exact nofun)

/-- In a legal bank the one window of highest class that holds the block is selected (R47, R50). -/
theorem Bank.select_of_highest {b : Bank} (hb : BankLegal b) {k : Block} {i : WinIx} (hi : (b.windows[i]).holds k = true)
    (hmax : b.NoneAbove k (b.windows[i]).level) : b.select k = some i := by
  refine Bank.select_of_noneAbove hmax ((b.candidate_eq_some_iff k _ i).2 ⟨⟨hi, rfl⟩, fun j hj hc => ?_⟩)
  exact hb.apart j i (Fin.ne_of_lt hj) hc.2 k ⟨hc.1, hi⟩

/-! ## The classification -/

theorem Banks.classify_aperture (b : Banks) {aperture : Block} (h : HPort) (k : Option Kind) {a : Addr}
    (ha : blockOf a = aperture) : b.classify aperture h k a = .aperture := if_pos ha

theorem Banks.classify_unmapped (b : Banks) {aperture : Block} (h : HPort) (k : Option Kind) {a : Addr}
    (ha : blockOf a ≠ aperture) (hs : b.active.select (blockOf a) = none) : b.classify aperture h k a = .unmapped := by
  unfold Banks.classify
  rw [if_neg ha, hs]

theorem Banks.classify_selected (b : Banks) {aperture : Block} (h : HPort) (k : Option Kind) {a : Addr} {i : WinIx}
    (ha : blockOf a ≠ aperture) (hs : b.active.select (blockOf a) = some i) :
    b.classify aperture h k a = b.classifyIn h k a i := by
  unfold Banks.classify
  rw [if_neg ha, hs]

theorem Window.permits_eq (w : Window) (k : Option Kind) :
    w.permits k = if k = some .rdq then w.readAllowed else w.writeAllowed := by
  unfold Window.permits
  split
  · rw [if_pos rfl]
  · next hk => rw [if_neg fun e => hk (by rw [e])]

/-- A classification by the selected window: permission and host set, then the destination kind (R51 to R57). -/
theorem Banks.classifyIn_spec (b : Banks) (h : HPort) (k : Option Kind) (a : Addr) (i : WinIx) :
    let w := b.active.windows[i]
    let g := b.active.groups[w.group]
    let allowed : Prop := (if k = some .rdq then w.readAllowed else w.writeAllowed) = true ∧ w.hostSet.getLsbD h.val = true
    (¬ allowed → b.classifyIn h k a i = .refused i) ∧
    (allowed → w.destKind = 2 → b.classifyIn h k a i = .discard i) ∧
    (allowed → w.destKind = 0 ∨ w.destKind = 1 →
      b.classifyIn h k a i = .routed i (w.target g a) (w.translate g a) w.convert b.generation) := by
  intro w g allowed
  have hallowed : (!(w.permits k && w.hostSet.getLsbD h.val)) = true ↔ ¬ allowed := by
    rw [Window.permits_eq, Bool.not_eq_true', ← Bool.not_eq_true, Bool.and_eq_true]
  refine ⟨fun hn => if_pos (hallowed.2 hn), fun ha hd => ?_, fun ha hd => ?_⟩
  · refine (if_neg fun hn => hallowed.1 hn ha).trans (if_neg ?_)
    change ¬ (decide (w.destKind = 0) || decide (w.destKind = 1)) = true
    rw [hd]
    decide
  · refine (if_neg fun hn => hallowed.1 hn ha).trans (if_pos ?_)
    change (decide (w.destKind = 0) || decide (w.destKind = 1)) = true
    rcases hd with hd | hd <;> rw [hd] <;> decide

theorem Banks.classifyIn_ne_unmapped (b : Banks) (h : HPort) (k : Option Kind) (a : Addr) (i : WinIx) :
    b.classifyIn h k a i ≠ .unmapped := by
  unfold Banks.classifyIn
  simp only
  split
  · exact nofun
  · split <;> exact nofun

/-- Settles O17: the selection takes the highest class that has a candidate, and in a legal bank a class has one at most. -/
theorem highestClassWindowDecidesTheClassification : Obligations.HighestClassWindowDecidesTheClassification := by
  intro b aperture h k a n holds result
  have hn : n = (blockOf a).toNat := (blockOf_toNat a).symm
  have hap : n = aperture.toNat ↔ blockOf a = aperture := by rw [hn, BitVec.toNat_inj]
  have hholds : ∀ i, holds i ↔ (b.active.windows[i]).holds (blockOf a) = true := fun i => by
    rw [Window.holds_iff, ← hn]
  refine ⟨fun ha => b.classify_aperture h k (hap.1 ha), fun ha => ⟨⟨fun hu i hi => ?_, fun hno => ?_⟩, fun hb i hi hmax => ?_⟩⟩
  · cases hs : b.active.select (blockOf a) with
    | none => exact (b.active.select_eq_none_iff _).1 hs i ((hholds i).1 hi)
    | some j =>
      have hr : b.classify aperture h k a = _ := b.classify_selected h k (fun e => ha (hap.2 e)) hs
      exact b.classifyIn_ne_unmapped h k a j (hr.symm.trans hu)
  · exact b.classify_unmapped h k (fun e => ha (hap.2 e))
      ((b.active.select_eq_none_iff _).2 fun i hi => hno i ((hholds i).2 hi))
  · have hs := Bank.select_of_highest hb ((hholds i).1 hi) fun j hj => hmax j ((hholds j).2 hj)
    have hr : result = b.classifyIn h k a i := b.classify_selected h k (fun e => ha (hap.2 e)) hs
    rw [hr]
    exact b.classifyIn_spec h k a i

/-! ## Translation and interleave -/

theorem targetOf_val {c : BitVec 3} (h : c.toNat < 6) : (targetOf c).val = c.toNat := by
  unfold targetOf
  rw [dif_pos h]

theorem Group.granule_eq {g : Group} (h : g.granuleCode ≠ 3) :
    g.granule = if g.granuleCode = 0 then 256 else if g.granuleCode = 1 then 4096 else 65536 := by
  have hcodes : ∀ c : BitVec 2, c ≠ 3 →
      256 * 16 ^ c.toNat = if c = 0 then 256 else if c = 1 then 4096 else 65536 := by decide
  exact hcodes _ h

theorem Group.granule_dvd (g : Group) : 256 ∣ g.granule := Dvd.intro _ rfl

theorem Group.granule_pos (g : Group) : 0 < g.granule := Nat.mul_pos (by decide) (Nat.pow_pos (by decide))

theorem Group.memberAt_eq (g : Group) {i : Nat} (h : i < 4) :
    [g.member0, g.member1, g.member2, g.member3][i]? = some (g.memberAt i) := by
  rcases i with _ | _ | _ | _ | i
  · rfl
  · rfl
  · rfl
  · rfl
  · omega

/-- The output offset lies no further than the offset itself (R68, R69). -/
theorem Group.outputOffset_le (g : Group) (hc : 0 < g.memberCount.toNat) (o : Nat) : g.outputOffset o ≤ o := by
  unfold Group.outputOffset
  split
  · have hle : o / g.period * g.granule ≤ o / g.granule * g.granule :=
      Nat.mul_le_mul_right _ (Nat.div_le_div_left (Nat.le_mul_of_pos_right _ hc) g.granule_pos)
    have := Nat.div_add_mod o g.granule
    rw [Nat.mul_comm] at this
    omega
  · exact Nat.le_refl _

/-- An address that a window holds lies in its range (R48, R62). -/
theorem Window.offset_lt {w : Window} {a : Addr} (h : w.holds (blockOf a) = true) :
    w.base.toNat * 2 ^ 20 ≤ a.toNat ∧ w.offset a < (w.limit.toNat - w.base.toNat + 1) * 2 ^ 20 := by
  obtain ⟨-, hbase, hlimit⟩ := (w.holds_iff _).1 h
  rw [blockOf_toNat] at hbase hlimit
  unfold Window.offset blockStart
  omega

/-- A translated address does not leave the space (R47, R63). -/
theorem Window.translate_toNat {w : Window} {g : Group} {a : Addr} (h : w.holds (blockOf a) = true)
    (hrange : w.translationBase.toNat + (w.limit.toNat - w.base.toNat) < 2 ^ 24)
    (hout : w.destKind = 0 ∨ ∀ o, g.outputOffset o ≤ o) : (w.translate g a).toNat = w.translationBase.toNat * 2 ^ 20 +
      if w.destKind = 0 then w.offset a else g.outputOffset (w.offset a) := by
  obtain ⟨-, hlt⟩ := Window.offset_lt h
  have hle : (if w.destKind = 0 then w.offset a else g.outputOffset (w.offset a)) ≤ w.offset a := by
    split
    · exact Nat.le_refl _
    · next hd => exact hout.resolve_left hd _
  unfold Window.translate blockStart
  rw [BitVec.toNat_ofNat, Nat.mod_eq_of_lt]
  omega

/-- What of a block of 256 bytes a division by a multiple of 256 sees. -/
theorem add_div_of_block {o n m : Nat} (hm : 256 ∣ m) (hn : o % 256 + n < 256) :
    (o + n) / m = o / m ∧ (o + n) % m = o % m + n := by
  obtain ⟨c, rfl⟩ := hm
  rcases Nat.eq_zero_or_pos c with rfl | hc
  · simp
  have hdiv : ∀ x : Nat, x / (256 * c) = x / 256 / c := fun x => by rw [Nat.div_div_eq_div_mul]
  have hq : (o + n) / 256 = o / 256 := by omega
  have hsame : (o + n) / (256 * c) = o / (256 * c) := by rw [hdiv, hdiv, hq]
  refine ⟨hsame, ?_⟩
  have h1 := Nat.div_add_mod (o + n) (256 * c)
  have h2 := Nat.div_add_mod o (256 * c)
  rw [hsame] at h1
  omega

/-- A later byte of an address's 256-byte block. -/
theorem Addr.add_toNat {a : Addr} {n : Nat} (hn : a.toNat % 256 + n < 256) : (a + BitVec.ofNat 44 n).toNat = a.toNat + n := by
  have := a.isLt
  rw [BitVec.toNat_add, BitVec.toNat_ofNat]
  omega

/-- The later bytes of a 256-byte block fall in the same window, at consecutive offsets (R70). -/
theorem Window.offset_add {w : Window} {a : Addr} {n : Nat} (h : w.holds (blockOf a) = true) (hn : a.toNat % 256 + n < 256) :
    w.holds (blockOf (a + BitVec.ofNat 44 n)) = true ∧ w.offset (a + BitVec.ofNat 44 n) = w.offset a + n ∧
      w.offset a % 256 + n < 256 := by
  obtain ⟨hbase, -⟩ := Window.offset_lt h
  have hadd := Addr.add_toNat hn
  refine ⟨?_, ?_, ?_⟩
  · have hblock : blockOf (a + BitVec.ofNat 44 n) = blockOf a := by
      apply BitVec.eq_of_toNat_eq
      rw [blockOf_toNat, blockOf_toNat, hadd]
      omega
    rw [hblock]
    exact h
  · unfold Window.offset blockStart
    rw [hadd]
    omega
  · unfold Window.offset blockStart
    omega

theorem Group.memberIndex_add (g : Group) {o n : Nat} (hn : o % 256 + n < 256) : g.memberIndex (o + n) = g.memberIndex o := by
  unfold Group.memberIndex
  rw [(add_div_of_block g.granule_dvd hn).1]

theorem Group.outputOffset_plain {g : Group} (h : g.compaction = false) (o : Nat) : g.outputOffset o = o :=
  if_neg (by rw [h]; decide)

theorem Group.outputOffset_compact {g : Group} (h : g.compaction = true) (o : Nat) :
    g.outputOffset o = o / (g.granule * g.memberCount.toNat) * g.granule + o % g.granule := if_pos h

theorem Group.outputOffset_add (g : Group) {o n : Nat} (hn : o % 256 + n < 256) :
    g.outputOffset (o + n) = g.outputOffset o + n := by
  unfold Group.outputOffset Group.period
  rw [(add_div_of_block (Nat.dvd_mul_right_of_dvd g.granule_dvd _) hn).1, (add_div_of_block g.granule_dvd hn).2]
  split
  · exact (Nat.add_assoc _ _ _).symm
  · rfl

/-- The member an offset falls to, in a legal group (R67). -/
theorem Group.member_eq {g : Group} (hg : GroupLegal g) (o : Nat) :
    ∃ c : BitVec 3, [g.member0, g.member1, g.member2, g.member3][o / g.granule % g.memberCount.toNat]? = some c ∧
      (g.member o).val = c.toNat := by
  have hcount : 0 < g.memberCount.toNat ∧ g.memberCount.toNat ≤ 4 := by
    rcases hg.count with h | h <;> rw [h] <;> decide
  have hi : g.memberIndex o < g.memberCount.toNat := Nat.mod_lt _ hcount.1
  exact ⟨_, g.memberAt_eq (Nat.lt_of_lt_of_le hi hcount.2), targetOf_val (hg.named _ hi)⟩

/-- Settles O18: a legal bank's window translates within the space, and its granules are whole blocks of 256 bytes. -/
theorem translationAndInterleaveArithmetic : Obligations.TranslationAndInterleaveArithmetic := by
  intro b i a hb hholds w g offset start granule count
  obtain ⟨hvalid, -, -⟩ := (w.holds_iff _).1 hholds
  have hw := hb.windows i hvalid
  have hoff : w.offset a = offset := rfl
  have hgroup : w.destKind = 1 → GroupLegal g := fun h => hb.groups _ (hw.group h)
  have hcount : w.destKind = 1 → count = 2 ∨ count = 4 := fun h =>
    (hgroup h).count.imp (congrArg BitVec.toNat) (congrArg BitVec.toNat)
  have hgranule : w.destKind = 1 → g.granule = granule := fun h => Group.granule_eq (hgroup h).granule
  have hkinds : w.destKind = 1 → ¬ w.destKind = 0 := fun h => by rw [h]; decide
  have htrans : w.destKind = 0 ∨ w.destKind = 1 → ∀ c : Addr, w.holds (blockOf c) = true →
      (w.translate g c).toNat = start + if w.destKind = 0 then w.offset c else g.outputOffset (w.offset c) :=
    fun hd c hc => Window.translate_toNat hc (hw.translation hd) (hd.imp_right fun h o =>
      g.outputOffset_le (by change 0 < count; rcases hcount h with hc | hc <;> omega) o)
  have htarget : w.destKind = 1 → ∀ c : Addr, w.target g c = g.member (w.offset c) := fun h c => if_neg (hkinds h)
  refine ⟨(Window.offset_lt hholds).1, fun hd => ⟨?_, ?_⟩, fun hd => ⟨hcount hd, ?_, fun hcomp => ?_, fun hcomp => ?_⟩,
    fun hd n hn => ?_⟩
  · have ht : w.target g a = targetOf w.destPort := if_pos hd
    rw [ht, targetOf_val (hw.port hd)]
  · rw [htrans (.inl hd) a hholds, if_pos hd, hoff]
  · rw [htarget hd, ← hgranule hd]
    exact Group.member_eq (hgroup hd) _
  · rw [htrans (.inr hd) a hholds, if_neg (hkinds hd), hoff, Group.outputOffset_plain hcomp]
  · rw [htrans (.inr hd) a hholds, if_neg (hkinds hd), hoff, Group.outputOffset_compact hcomp, ← hgranule hd, Nat.add_assoc]
  · obtain ⟨hholds', hoffset, hblock⟩ := Window.offset_add hholds hn
    rw [htrans hd _ hholds', htrans hd a hholds, hoffset]
    rcases hd with hd | hd
    · rw [if_pos hd, if_pos hd]
      exact ⟨(if_pos hd).trans (if_pos hd).symm, (Nat.add_assoc _ _ _).symm⟩
    · rw [if_neg (hkinds hd), if_neg (hkinds hd), htarget hd, htarget hd, hoffset, g.outputOffset_add hblock]
      exact ⟨congrArg (fun m => targetOf (g.memberAt m)) (g.memberIndex_add hblock), (Nat.add_assoc _ _ _).symm⟩

end Sys2Proof.Machine

/-! PROOFS. Admission (chapter 6): the decision of an evaluation, check by check. -/

namespace Sys2Proof.Machine

-- One proof at a time: side by side they take more memory than the check allows.
set_option Elab.async false

/-! ## The checks in their order (R99) -/

section
variable {s : State} {h : HPort} {p : Packet}

theorem State.decideHead_malformed (hw : p.wellFormedRequest = false) :
    s.decideHead h p = refuse p .malformed (requestReport .malformedRequest (.host h) p none) :=
  if_pos (by rw [hw]; rfl)

theorem State.decideHead_wellFormed (hw : p.wellFormedRequest = true) : s.decideHead h p =
    if blockOf p.address = s.mgmt.apertureBase then
      if s.granted h then .divert else refuse p .denied (requestReport .mgmtDenied (.host h) p none)
    else if s.commit.engine = .draining then .wait .pause
    else s.decideClassified h p (s.banks.classify s.mgmt.apertureBase h p.kind p.address) :=
  if_neg (by rw [hw]; exact nofun)

theorem State.decideHead_granted (hw : p.wellFormedRequest = true) (ha : blockOf p.address = s.mgmt.apertureBase)
    (hg : s.granted h = true) : s.decideHead h p = .divert := by
  rw [State.decideHead_wellFormed hw, if_pos ha, if_pos hg]

theorem State.decideHead_ungranted (hw : p.wellFormedRequest = true) (ha : blockOf p.address = s.mgmt.apertureBase)
    (hg : s.granted h = false) :
    s.decideHead h p = refuse p .denied (requestReport .mgmtDenied (.host h) p none) := by
  rw [State.decideHead_wellFormed hw, if_pos ha, hg]
  rfl

theorem State.decideHead_paused (hw : p.wellFormedRequest = true) (ha : blockOf p.address ≠ s.mgmt.apertureBase)
    (he : s.commit.engine = .draining) : s.decideHead h p = .wait .pause := by
  rw [State.decideHead_wellFormed hw, if_neg ha, if_pos he]

theorem State.decideHead_classified (hw : p.wellFormedRequest = true) (ha : blockOf p.address ≠ s.mgmt.apertureBase)
    (he : s.commit.engine ≠ .draining) :
    s.decideHead h p = s.decideClassified h p (s.banks.classify s.mgmt.apertureBase h p.kind p.address) := by
  rw [State.decideHead_wellFormed hw, if_neg ha, if_neg he]

/-! ## Refusals and the bridge's own answers -/

/-- A refusal of a request: its answer under the request's tag, none for a posted write, and its fault (R100, R110). -/
def Packet.RefusedBy (p : Packet) (d : Decision) (code : Byte) (k : FaultKind) (port : Port) (w : Option WinIx) : Prop :=
  ∃ r : Report, r.kind = k ∧ r.port = port ∧ r.entry = none ∧ r.window = w ∧ r.address = some p.address ∧
    r.detail = .none ∧ r.capture = some p.capture ∧
    (p.kind = some .wpq → d = .drop (some r) ∧ r.hostTag = none) ∧
    (p.kind ≠ some .wpq → r.hostTag = some p.tag ∧
      d = .answer { kindCode := 5, tag := p.tag, status := code, final := true } (some r))

theorem refuse_refusedBy (p : Packet) (st : Status) (k : FaultKind) (port : Port) (w : Option WinIx) :
    p.RefusedBy (refuse p st (requestReport k port p w)) st.code k port w := by
  refine ⟨requestReport k port p w, rfl, rfl, rfl, rfl, rfl, rfl, rfl, fun hp => ?_, fun hp => ?_⟩
  · have hposted : p.posted = true := (Packet.posted_iff p).2 hp
    exact ⟨if_pos hposted, if_pos hposted⟩
  · have hposted : ¬ p.posted = true := fun e => hp ((Packet.posted_iff p).1 e)
    exact ⟨if_neg hposted, if_neg hposted⟩

theorem discardAnswerOf_read (hp : p.kind = some .rdq) :
    discardAnswerOf p = .answer (cpdPacket p.tag (List.replicate p.length.toNat 0xFF)) none := by
  unfold discardAnswerOf
  rw [hp]

theorem discardAnswerOf_acknowledged (hp : p.kind = some .waq) :
    discardAnswerOf p = .answer (cpsPacket p.tag .ok) none := by
  unfold discardAnswerOf
  rw [hp]

theorem discardAnswerOf_posted (hp : p.kind = some .wpq) : discardAnswerOf p = .drop none := by
  unfold discardAnswerOf
  rw [hp]

/-! ## Check 7: the entry kind, the host tag and the resources -/

theorem trackedAs_eq_none_iff (hp : p.kind = some .rdq ∨ p.kind = some .waq ∨ p.kind = some .wpq) (convert : Bool) :
    trackedAs p convert = none ↔ p.kind = some .wpq ∧ convert = false := by
  unfold trackedAs
  rcases hp with hp | hp | hp <;> rw [hp] <;> cases convert <;> decide

/-- The entry kind of a tracked request (R106). -/
theorem trackedAs_of_tracked (hp : p.kind = some .rdq ∨ p.kind = some .waq ∨ p.kind = some .wpq) {convert : Bool}
    (ht : ¬ (p.kind = some .wpq ∧ convert = false)) : trackedAs p convert =
      some (if p.kind = some .rdq then .read else if p.kind = some .waq then .writeAck else .writeConverted) := by
  unfold trackedAs
  revert ht
  rcases hp with hp | hp | hp <;> rw [hp] <;> cases convert <;> decide

/-- A live entry of the host that its kind's map holds has the request's host tag (R106, R130). -/
def Tracker.HoldsTag (t : Tracker) (h : HPort) (tag : Byte) (e : EntryIx) : Prop :=
  ((t.ort[e]).state = .waiting ∨ (t.ort[e]).state = .receiving) ∧ (t.ort[e]).orphaned = false ∧
    (t.ort[e]).kind ≠ .writeConverted ∧ (t.ort[e]).host = h ∧ (t.ort[e]).hostTag = tag

theorem Tracker.holdsTag_iff (t : Tracker) (h : HPort) (tag : Byte) (e : EntryIx) : t.HoldsTag h tag e ↔
    ((t.ort[e]).mapped && (t.ort[e]).host == h && (t.ort[e]).hostTag == tag) = true := by
  simp only [Tracker.HoldsTag, Entry.mapped, Entry.inFlight, Bool.and_eq_true, Bool.or_eq_true, beq_iff_eq, bne_iff_ne,
    Bool.not_eq_true', and_assoc]

theorem Tracker.tagHolder_eq_some_iff (t : Tracker) (h : HPort) (tag : Byte) (e : EntryIx) :
    t.tagHolder h tag = some e ↔ t.HoldsTag h tag e ∧ ∀ f, f < e → ¬ t.HoldsTag h tag f := by
  unfold Tracker.tagHolder
  rw [find?_finRange_eq_some_iff, Tracker.holdsTag_iff]
  simp only [Tracker.holdsTag_iff, Bool.not_eq_true]

theorem Tracker.tagHolder_eq_none_of (t : Tracker) {h : HPort} {tag : Byte} (hno : ∀ e, ¬ t.HoldsTag h tag e) :
    t.tagHolder h tag = none :=
  (find?_finRange_eq_none_iff _).2 fun e => by
    rw [← Bool.not_eq_true, ← Tracker.holdsTag_iff]
    exact hno e

theorem Tracker.lowestFree_isNone (t : Tracker) :
    t.lowestFree.isNone = decide (∀ e : EntryIx, (t.ort[e]).state ≠ .free) := by
  rw [Bool.eq_iff_iff, Option.isNone_iff_eq_none, decide_eq_true_iff]
  unfold Tracker.lowestFree
  rw [find?_finRange_eq_none_iff]
  simp only [beq_eq_false_iff_ne]

theorem Missing.any_eq_false_iff (m : Missing) : m.any = false ↔ m = ⟨false, false, false, false, false⟩ := by
  rcases m with ⟨_ | _, _ | _, _ | _, _ | _, _ | _⟩ <;> decide

theorem State.egressFull_iff (s : State) (d : DPort) : s.egressFull d = true ↔ 16 ≤ s.targets[d].link.egress.length :=
  decide_eq_true_iff

theorem State.egressFull_eq_false_iff (s : State) (d : DPort) :
    s.egressFull d = false ↔ s.targets[d].link.egress.length < 16 := by
  rw [← Bool.not_eq_true, State.egressFull_iff, Nat.not_le]

theorem State.duplicateOf_of_writeConverted (h : HPort) (p : Packet) :
    s.duplicateOf h p .writeConverted = none := if_pos rfl

theorem State.duplicateOf_of_ne {k : EntryKind} (hk : k ≠ .writeConverted) :
    s.duplicateOf h p k = s.tracker.tagHolder h p.tag := if_neg hk

/-- The kind of a request that is not posted is looked up under its host tag (R106). -/
theorem entryKind_ne_writeConverted (hp : p.kind = some .rdq ∨ p.kind = some .waq ∨ p.kind = some .wpq)
    (hn : p.kind ≠ some .wpq) : (if p.kind = some .rdq then EntryKind.read
      else if p.kind = some .waq then .writeAck else .writeConverted) ≠ .writeConverted := by
  rcases hp with hp | hp | hp
  · rw [hp]; decide
  · rw [hp]; decide
  · exact absurd hp hn

/-- An untracked posted write needs the egress slot alone (R107). -/
theorem State.decideRouted_untracked {convert : Bool} {x : Admitted} (hk : trackedAs p convert = none) :
    s.decideRouted h p convert x =
      if s.egressFull x.target then .wait (.resource onlySlotMissing) else .admitting { x with kind := none } := by
  unfold State.decideRouted
  rw [hk]

/-- A request whose host tag a live entry holds is dropped (R106). -/
theorem State.decideRouted_duplicate {convert : Bool} {x : Admitted} {k : EntryKind} {e : EntryIx}
    (hk : trackedAs p convert = some k) (hd : s.duplicateOf h p k = some e) : s.decideRouted h p convert x =
      .drop (some { requestReport .duplicateTag (.host h) p none with entry := some e }) := by
  unfold State.decideRouted
  rw [hk]
  dsimp only
  rw [hd]

/-- A tracked request waits for every resource it misses, or is admitted (R107, R108). -/
theorem State.decideRouted_tracked {convert : Bool} {x : Admitted} {k : EntryKind}
    (hk : trackedAs p convert = some k) (hd : s.duplicateOf h p k = none) : s.decideRouted h p convert x =
      if (s.missing h x.target).any then .wait (.resource (s.missing h x.target)) else .admitting { x with kind := some k } := by
  unfold State.decideRouted
  rw [hk]
  dsimp only
  rw [hd]

end

/-- Checks 7 and 8 of a routed request: what waits, what is dropped, what is admitted (R106 to R108). -/
theorem State.decideRouted_spec (s : State) (h : HPort) (p : Packet)
    (hp : p.kind = some .rdq ∨ p.kind = some .waq ∨ p.kind = some .wpq) (convert : Bool) (x : Admitted) :
    let untracked : Prop := p.kind = some .wpq ∧ convert = false
    let kind : EntryKind :=
      if p.kind = some .rdq then .read else if p.kind = some .waq then .writeAck else .writeConverted
    let d := x.target
    let holds := s.tracker.HoldsTag h p.tag
    (untracked → 16 ≤ s.targets[d].link.egress.length →
      s.decideRouted h p convert x = .wait (.resource ⟨false, false, false, true, false⟩)) ∧
    (untracked → s.targets[d].link.egress.length < 16 → s.decideRouted h p convert x = .admitting { x with kind := none }) ∧
    (∀ e, p.kind ≠ some .wpq → holds e → (∀ f : EntryIx, f < e → ¬ holds f) →
      s.decideRouted h p convert x = .drop (some
        { kind := .duplicateTag, port := .host h, entry := some e, hostTag := some p.tag,
          address := some p.address, capture := some p.capture })) ∧
    (¬ untracked → (p.kind ≠ some .wpq → ∀ e, ¬ holds e) → s.missing h d ≠ ⟨false, false, false, false, false⟩ →
      s.decideRouted h p convert x = .wait (.resource (s.missing h d))) ∧
    (¬ untracked → (p.kind ≠ some .wpq → ∀ e, ¬ holds e) → s.missing h d = ⟨false, false, false, false, false⟩ →
      s.decideRouted h p convert x = .admitting { x with kind := some kind }) := by
  intro untracked kind d holds
  have hnone : (p.kind ≠ some .wpq → ∀ e, ¬ holds e) → s.duplicateOf h p kind = none := fun hno => by
    by_cases hk : kind = .writeConverted
    · rw [hk]
      exact State.duplicateOf_of_writeConverted h p
    · rw [State.duplicateOf_of_ne hk]
      refine Tracker.tagHolder_eq_none_of _ (hno fun hw => hk ?_)
      change (if p.kind = some .rdq then EntryKind.read else if p.kind = some .waq then .writeAck else .writeConverted) = _
      rw [hw]
      rfl
  refine ⟨fun hu hfull => ?_, fun hu hfree => ?_, fun e hn he hfirst => ?_, fun ht hno hm => ?_, fun ht hno hm => ?_⟩
  · rw [State.decideRouted_untracked ((trackedAs_eq_none_iff hp convert).2 hu), if_pos ((s.egressFull_iff d).2 hfull)]
    rfl
  · rw [State.decideRouted_untracked ((trackedAs_eq_none_iff hp convert).2 hu), (s.egressFull_eq_false_iff d).2 hfree]
    rfl
  · have hdup : s.duplicateOf h p kind = some e :=
      (State.duplicateOf_of_ne (entryKind_ne_writeConverted hp hn)).trans
        ((s.tracker.tagHolder_eq_some_iff h p.tag e).2 ⟨he, hfirst⟩)
    have htag : (requestReport .duplicateTag (.host h) p none).hostTag = some p.tag :=
      if_neg fun e => hn ((Packet.posted_iff p).1 e)
    rw [State.decideRouted_duplicate (trackedAs_of_tracked hp fun hu => hn hu.1) hdup, htag.symm]
    rfl
  · rw [State.decideRouted_tracked (trackedAs_of_tracked hp ht) (hnone hno)]
    exact if_pos (Bool.not_eq_false _ ▸ mt (Missing.any_eq_false_iff _).1 hm)
  · rw [State.decideRouted_tracked (trackedAs_of_tracked hp ht) (hnone hno)]
    exact if_neg (by rw [(Missing.any_eq_false_iff _).2 hm]; exact nofun)

/-- The missing resources, each as R107 says it. -/
theorem State.missing_eq (s : State) (h : HPort) (d : DPort) : s.missing h d =
    { hostCount := decide (s.hosts[h].outstandingLimit ≤ s.tracker.hostCount h)
      targetCount := decide (s.targets[d].outstandingLimit ≤ s.tracker.targetCount d)
      ortEntry := decide (∀ e : EntryIx, (s.tracker.ort[e]).state ≠ .free)
      egressSlot := decide (16 ≤ s.targets[d].link.egress.length)
      answerRoom := decide (128 ≤ s.tracker.hostCount h + (s.tracker.answers[h]).length) } := by
  rw [← Tracker.lowestFree_isNone]
  rfl

/-- Settles O16, check by check of `decideHead`. -/
theorem admissionChecksDecideInOrder : Obligations.AdmissionChecksDecideInOrder := by
  intro s h p hp refused inAperture result
  refine ⟨fun hw => ?_, fun hw ha hg => State.decideHead_granted hw ha hg, fun hw ha hg => ?_,
    fun hw ha he => State.decideHead_paused hw ha he, fun hw ha he => ?_⟩
  · rw [State.decideHead_malformed hw]
    exact refuse_refusedBy p .malformed _ _ _
  · rw [State.decideHead_ungranted hw ha hg]
    exact refuse_refusedBy p .denied _ _ _
  have hdecide : s.decideHead h p = s.decideClassified h p result := State.decideHead_classified hw ha he
  rw [hdecide]
  refine ⟨fun hr => ?_, fun w hr => ?_, fun w hr => ?_, fun w d a convert g hr hup => ?_, fun w d a convert g hr hup => ?_⟩
  · rw [hr]
    exact refuse_refusedBy p .unmapped _ _ _
  · rw [hr]
    exact refuse_refusedBy p .denied _ _ _
  · rw [hr]
    change (_ → ∃ q, discardAnswerOf p = _ ∧ _) ∧ (_ → discardAnswerOf p = _) ∧ (_ → discardAnswerOf p = _)
    refine ⟨fun hk => ⟨_, discardAnswerOf_read hk, rfl, rfl, rfl, ?_, rfl, rfl, rfl⟩,
      fun hk => discardAnswerOf_acknowledged hk, fun hk => discardAnswerOf_posted hk⟩
    change BitVec.ofNat 9 (List.replicate p.length.toNat (0xFF : Byte)).length = p.length
    rw [List.length_replicate, BitVec.ofNat_toNat, BitVec.setWidth_eq]
  · have hd : s.decideClassified h p result = refuse p .unreachable (requestReport .targetUnreachable (.target d) p (some w)) := by
      rw [hr]
      exact if_neg (by rw [hup]; exact nofun)
    rw [hd]
    exact refuse_refusedBy p .unreachable _ _ _
  · have hd : s.decideClassified h p result =
        s.decideRouted h p convert { kind := none, window := w, target := d, address := a, generation := g } := by
      rw [hr]
      exact if_pos hup
    rw [hd]
    intro untracked kind passes holds missing
    have hm : missing = s.missing h d := (s.missing_eq h d).symm
    rw [hm]
    exact s.decideRouted_spec h p hp convert { kind := none, window := w, target := d, address := a, generation := g }

/-! ## What an admission rests on -/

/-- A routed request went through the window selected for its block, which allows it (R50 to R53, R62 to R69). -/
theorem Banks.classify_routed {b : Banks} {aperture : Block} {h : HPort} {k : Option Kind} {a out : Addr} {i : WinIx}
    {d : DPort} {convert : Bool} {g : Seq} (hr : b.classify aperture h k a = .routed i d out convert g) :
    let w := b.active.windows[i]
    b.active.select (blockOf a) = some i ∧ w.permits k = true ∧ w.hostSet.getLsbD h.val = true ∧
      d = w.target b.active.groups[w.group] a ∧ out = w.translate b.active.groups[w.group] a ∧ convert = w.convert ∧
      g = b.generation := by
  unfold Banks.classify at hr
  split at hr
  · cases hr
  split at hr
  · cases hr
  next j hs =>
  unfold Banks.classifyIn at hr
  dsimp only at hr
  split at hr
  · cases hr
  next hallowed =>
  rw [Bool.not_eq_true, Bool.not_eq_false', Bool.and_eq_true] at hallowed
  split at hr
  · cases hr
    exact ⟨hs, hallowed.1, hallowed.2, rfl, rfl, rfl, rfl⟩
  · cases hr

theorem Packet.kind_of_wellFormed {p : Packet} (hw : p.wellFormedRequest = true) :
    p.kind = some .rdq ∨ p.kind = some .waq ∨ p.kind = some .wpq := by
  unfold Packet.wellFormedRequest at hw
  rw [Bool.and_eq_true] at hw
  obtain ⟨-, hk⟩ := hw
  split at hk
  · next e => exact .inl e
  · next e => exact .inr (.inr e)
  · next e => exact .inr (.inl e)
  · cases hk

/-- A tracked request is admitted with every resource at hand and its host tag free (R106, R107). -/
theorem State.resources_of_admitted {s : State} {h : HPort} {p : Packet} {d : DPort} {k : EntryKind}
    (hk : p.kind ≠ some .wpq → k ≠ .writeConverted) (hdup : s.duplicateOf h p k = none) (hm : (s.missing h d).any = false) :
    s.tracker.hostCount h < s.hosts[h].outstandingLimit ∧
    s.tracker.targetCount d < s.targets[d].outstandingLimit ∧
    (∃ e : EntryIx, (s.tracker.ort[e]).state = .free) ∧
    s.tracker.hostCount h + (s.tracker.answers[h]).length < 128 ∧
    (p.kind ≠ some .wpq → ∀ e : EntryIx, (s.tracker.ort[e]).mapped = true → (s.tracker.ort[e]).host = h →
      (s.tracker.ort[e]).hostTag ≠ p.tag) := by
  have hmissing := (Missing.any_eq_false_iff _).1 hm
  have hhost := of_decide_eq_false (congrArg Missing.hostCount hmissing)
  have htarget := of_decide_eq_false (congrArg Missing.targetCount hmissing)
  have hentry := congrArg Missing.ortEntry hmissing
  have hanswers := of_decide_eq_false (congrArg Missing.answerRoom hmissing)
  refine ⟨Nat.lt_of_not_le hhost, Nat.lt_of_not_le htarget, ?_, Nat.lt_of_not_le hanswers, fun hp => ?_⟩
  · have hfree := of_decide_eq_false ((Tracker.lowestFree_isNone _).symm.trans hentry)
    push Not at hfree
    exact hfree
  · rw [State.duplicateOf_of_ne (hk hp)] at hdup
    exact (Tracker.tagHolder_eq_none_iff _ _ _).1 hdup

/-- Settles O19: an admission has passed every check, and the window is the selected one. -/
theorem admissionNeedsPermissionAndResources : Obligations.AdmissionNeedsPermissionAndResources := by
  intro s h p x hd w
  obtain ⟨hwell, haperture, hengine, hup, hslot, convert, hclass, hkind, hclear⟩ := State.decideHead_admitting hd
  obtain ⟨hselect, hpermits, hset, htarget, haddress, hconvert, hgeneration⟩ := Banks.classify_routed hclass
  obtain ⟨hholds, habove⟩ := Bank.select_spec hselect
  have hp := Packet.kind_of_wellFormed hwell
  rw [Window.permits_eq] at hpermits
  refine ⟨hwell, haperture, hengine, hholds, habove, hpermits, hset, hup, (s.egressFull_eq_false_iff _).1 hslot,
    htarget, haddress, hgeneration, ?_, fun hk => ?_⟩
  · rw [hkind, trackedAs_eq_none_iff hp, hconvert]
  · obtain ⟨k, hk⟩ := Option.ne_none_iff_exists'.1 hk
    obtain ⟨hdup, hm⟩ := hclear k hk
    refine State.resources_of_admitted (fun hn => ?_) hdup hm
    have htracked := trackedAs_of_tracked hp (convert := convert) fun hu => hn hu.1
    rw [← hkind, hk] at htracked
    rw [Option.some.inj htracked]
    exact entryKind_ne_writeConverted hp hn

end Sys2Proof.Machine

/-! PROOFS. Admission (chapter 6): what an outcome does at a head, the acceptance of an access, and the pass. -/

namespace Sys2Proof.Machine

-- One proof at a time: side by side they take more memory than the check allows.
set_option Elab.async false

/-! ## The rotation of a round-robin (R31, R114, R118, R155) -/

/-- A round-robin search finds the first that meets the condition at or after the pointer. -/
theorem find?_rotation_eq_some_iff {n : Nat} [NeZero n] (f : Fin n → Bool) (p i : Fin n) :
    (rotation n p).find? f = some i ↔ f i = true ∧ ∀ j, f j = true → (i - p).val ≤ (j - p).val := by
  unfold rotation
  have hback : ∀ j : Fin n, p + (j - p) = j := fun j => add_sub_cancel p j
  rw [List.find?_map, Option.map_eq_some_iff]
  constructor
  · rintro ⟨k, hk, rfl⟩
    obtain ⟨hf, hfirst⟩ := (find?_finRange_eq_some_iff _ _).1 hk
    refine ⟨hf, fun j hj => ?_⟩
    rw [add_sub_cancel_left]
    by_contra hlt
    have hno := hfirst (j - p) (Fin.lt_def.2 (Nat.lt_of_not_le hlt))
    rw [Function.comp_apply, hback, hj] at hno
    cases hno
  · rintro ⟨hf, hfirst⟩
    refine ⟨i - p, (find?_finRange_eq_some_iff _ _).2 ⟨by rw [Function.comp_apply, hback]; exact hf, fun k hk => ?_⟩, hback i⟩
    rw [Function.comp_apply, ← Bool.not_eq_true]
    intro hj
    have hle := hfirst _ hj
    rw [add_sub_cancel_left] at hle
    exact Nat.not_le.2 (Fin.lt_def.1 hk) hle

theorem find?_rotation_eq_none_iff {n : Nat} [NeZero n] (f : Fin n → Bool) (p : Fin n) :
    (rotation n p).find? f = none ↔ ∀ j, f j = false := by
  unfold rotation
  rw [List.find?_map, Option.map_eq_none_iff, find?_finRange_eq_none_iff]
  refine ⟨fun h j => ?_, fun h j => h _⟩
  have hj := h (j - p)
  rwa [Function.comp_apply, add_sub_cancel] at hj

theorem rotation_hosts (p : HPort) : rotation 4 p = [p, p + 1, p + 2, p + 3] := by
  revert p
  decide

/-! ## What an outcome does at a head -/

section
variable {s : State} {h : HPort} {p : Packet} {rest : List Packet}

/-- The head is gone, and the packet behind it is presented (R98). -/
def State.headLeft (s : State) (h : HPort) (rest : List Packet) : State :=
  (s.setHost h fun y => { y with link := { y.link with ingress := rest } }).setHead h
    (if rest = [] then .noHead else .presented)

theorem State.host_setHost (s : State) (h : HPort) (f : HostPort → HostPort) : (s.setHost h f).hosts[h] = f s.hosts[h] :=
  s.setHost_self h f

theorem State.target_setTarget (s : State) (d : DPort) (f : TargetPort → TargetPort) :
    (s.setTarget d f).targets[d] = f s.targets[d] := s.setTarget_self d f

theorem State.popIngress_host (hin : s.hosts[h].link.ingress = p :: rest) :
    s.popIngress (.host h) = s.setHost h fun y => { y with link := { y.link with ingress := rest } } :=
  s.setHost_congr h (f := fun y => { y with link := { y.link with ingress := y.link.ingress.tail } })
    (congrArg (fun l : List Packet => { s.hosts[h] with link := { s.hosts[h].link with ingress := l } }) (congrArg List.tail hin))

theorem State.removeHead_eq (hin : s.hosts[h].link.ingress = p :: rest) : s.removeHead h = s.headLeft h rest := by
  unfold State.removeHead State.headLeft
  rw [State.popIngress_host hin]
  dsimp only
  rw [State.host_setHost]
  cases rest <;> rfl

theorem State.evaluate_head (hin : s.hosts[h].link.ingress = p :: rest) (b : Bool) :
    s.evaluate h b = s.applyDecision h b p (s.decideHead h p) := by
  unfold State.evaluate
  rw [hin]

theorem State.visit_of_evaluable (hin : s.hosts[h].link.ingress = p :: rest)
    (hc : s.admission.heads[h] = .presented ∨ ∃ r, s.admission.heads[h] = .waiting r) :
    s.visit h = s.applyDecision h false p (s.decideHead h p) := by
  have he : (s.admission.heads[h]).evaluable = true := by
    rcases hc with hc | ⟨r, hc⟩ <;> rw [hc] <;> rfl
  exact (if_pos he).trans (State.evaluate_head hin false)

theorem State.visit_of_idle (hc : s.admission.heads[h] = .noHead ∨ s.admission.heads[h] = .held) : s.visit h = s :=
  if_neg (by rcases hc with hc | hc <;> rw [hc] <;> exact nofun)

/-- An untracked posted write goes out with tag zero (R108). -/
theorem State.admitting_untracked {x : Admitted} (hin : s.hosts[h].link.ingress = p :: rest) (hx : x.kind = none) :
    s.admitting h p x = (let v := State.headLeft (s.setTarget x.target fun y =>
        { y with link := { y.link with egress := y.link.egress ++
          [{ kindCode := p.kindCode, tag := 0, length := p.length, address := x.address, payload := p.payload }] } }) h rest
      { v with admission := { v.admission with pointer := h + 1 } }) := by
  have hpacket : requestPacket p x 0 =
      { kindCode := p.kindCode, tag := 0, length := p.length, address := x.address, payload := p.payload } := by
    unfold requestPacket
    rw [hx]
    rfl
  unfold State.admitting
  rw [hx]
  dsimp only
  rw [hpacket, State.removeHead_eq (s := s.placeTarget x.target _) hin]
  rfl

/-- A local answer that has room is placed, the head leaves, and the fault follows (R109). -/
theorem State.answerLocally_of_room {b : Bool} {a : Packet} {f : Option Report} (hin : s.hosts[h].link.ingress = p :: rest)
    (hr : (b || s.givesRoom h .localAnswer) = true) : s.answerLocally h b a f =
      (State.headLeft (s.setHost h fun y =>
        { y with link := { y.link with egress := y.link.egress ++ [a] }, classPtr := .management }) h rest).report f.toList := by
  have hin' : (s.placeHost h .localAnswer a).hosts[h].link.ingress = p :: rest := by
    unfold State.placeHost
    rw [State.host_setHost]
    exact hin
  refine (if_pos hr).trans ?_
  rw [State.removeHead_eq hin']
  rfl

theorem State.answerLocally_of_no_room {a : Packet} {f : Option Report} (hr : s.givesRoom h .localAnswer = false) :
    s.answerLocally h false a f = s.setHead h (.waiting .answerRoom) :=
  if_neg (by rw [hr]; exact nofun)

end

/-- What a pass does at each outcome of the head it visits. -/
theorem State.visit_outcomes (s : State) {h : HPort} {p : Packet} {rest : List Packet}
    (hin : s.hosts[h].link.ingress = p :: rest)
    (hc : s.admission.heads[h] = .presented ∨ ∃ r, s.admission.heads[h] = .waiting r) :
    (∀ x, s.decideHead h p = .admitting x → x.kind = none →
      s.visit h =
        (let v := State.headLeft (s.setTarget x.target fun y => { y with link := { y.link with egress := y.link.egress ++
          [{ kindCode := p.kindCode, tag := 0, length := p.length, address := x.address, payload := p.payload }] } }) h rest
        { v with admission := { v.admission with pointer := h + 1 } })) ∧
    (s.decideHead h p = .divert → s.visit h = s.setHead h (.waiting .management)) ∧
    (∀ a f, s.decideHead h p = .answer a f →
      (s.givesRoom h .localAnswer = true → s.visit h = (State.headLeft (s.setHost h fun y =>
        { y with link := { y.link with egress := y.link.egress ++ [a] }, classPtr := .management }) h rest).report f.toList) ∧
      (s.givesRoom h .localAnswer = false → s.visit h = s.setHead h (.waiting .answerRoom))) ∧
    (∀ f, s.decideHead h p = .drop f → s.visit h = (s.headLeft h rest).report f.toList) ∧
    (∀ r, s.decideHead h p = .wait r → s.visit h = s.setHead h (.waiting r)) := by
  rw [State.visit_of_evaluable hin hc]
  refine ⟨fun x hd hx => ?_, fun hd => ?_, fun a f hd => ⟨fun hr => ?_, fun hr => ?_⟩, fun f hd => ?_, fun r hd => ?_⟩ <;>
    rw [hd]
  · exact State.admitting_untracked hin hx
  · rfl
  · exact State.answerLocally_of_room hin (by rw [hr]; rfl)
  · exact State.answerLocally_of_no_room hr
  · exact congrArg (State.report · f.toList) (State.removeHead_eq hin)
  · rfl

/-! ## The acceptance of an access -/

theorem State.unitFree_iff (s : State) : s.unitFree = true ↔ s.mgmt.unit = .free ∧ s.mgmt.action = none := by
  simp [State.unitFree]

/-- A diverted head among the candidates that the unit could accept (R117). -/
def State.ReadyIn (s : State) (l : List HPort) (g : HPort) : Prop :=
  g ∈ l ∧ s.admission.heads[g] = .waiting .management ∧ s.mgmt.answers[g] = none

theorem State.readyIn_iff (s : State) (l : List HPort) (g : HPort) :
    s.ReadyIn l g ↔ (l.contains g && s.acceptable g) = true := by
  simp [State.ReadyIn, State.acceptable]

/-- The free unit accepts the first ready head at or after its pointer (R117, R118). -/
theorem State.acceptOne_of_ready {s : State} {l : List HPort} {h : HPort} (hf : s.unitFree = true) (hr : s.ReadyIn l h)
    (hfirst : ∀ g, s.ReadyIn l g → (h - s.admission.mgmtPointer).val ≤ (g - s.admission.mgmtPointer).val) :
    s.acceptOne l = s.accept h := by
  have hfind : (rotation 4 s.admission.mgmtPointer).find? (fun g => l.contains g && s.acceptable g) = some h :=
    (find?_rotation_eq_some_iff _ _ _).2 ⟨(s.readyIn_iff l h).1 hr, fun j hj => hfirst j ((s.readyIn_iff l j).2 hj)⟩
  unfold State.acceptOne
  rw [if_pos hf, hfind]

theorem State.acceptOne_of_none {s : State} {l : List HPort} (hn : ¬ s.unitFree = true ∨ ∀ g, ¬ s.ReadyIn l g) :
    s.acceptOne l = s := by
  unfold State.acceptOne
  rcases hn with hf | hn
  · rw [if_neg hf]
  · have hfind : (rotation 4 s.admission.mgmtPointer).find? (fun g => l.contains g && s.acceptable g) = none :=
      (find?_rotation_eq_none_iff _ _).2 fun j => by
        rw [← Bool.not_eq_true, ← s.readyIn_iff]
        exact hn j
    rw [hfind, ite_self]

/-- An accepted head is gone, its port HELD, the unit BUSY (R117, R118). -/
theorem State.accept_eq {s : State} {h : HPort} {p : Packet} {rest : List Packet} (hin : s.hosts[h].link.ingress = p :: rest) :
    s.accept h = (let v := (s.setHost h fun y => { y with link := { y.link with ingress := rest } }).setHead h .held
      { v with
        admission := { v.admission with mgmtPointer := h + 1 }
        mgmt := { v.mgmt with unit := .accessing { port := h, packet := p } } }) := by
  unfold State.accept
  rw [hin]
  dsimp only
  rw [State.popIngress_host hin]

/-! ## The decision does not see the link units -/

theorem State.decideHead_setHost (s : State) (h : HPort) (p : Packet) {f : HostPort → HostPort}
    (hf : (f s.hosts[h]).outstandingLimit = s.hosts[h].outstandingLimit) : (s.setHost h f).decideHead h p = s.decideHead h p := by
  have hm : ∀ d, (s.setHost h f).missing h d = s.missing h d := fun d => by
    unfold State.missing
    rw [State.host_setHost, hf]
    rfl
  have hrouted : ∀ convert x, (s.setHost h f).decideRouted h p convert x = s.decideRouted h p convert x := fun convert x => by
    unfold State.decideRouted
    simp only [hm]
    rfl
  unfold State.decideHead State.decideClassified
  simp only [hrouted]
  rfl

/-! ## The pass -/

theorem exec_headPresented {s : State} {h : HPort} (hc : s.admission.heads[h] = .presented) :
    exec (.headPresented h) s = .next (State.settleIn 4 (State.pass { s with admission := { s.admission with passDue := false } })) := by
  change execHeadPresented h s = _
  unfold execHeadPresented
  rw [if_pos hc]
  rfl

theorem State.pass_eq (s : State) : s.pass =
    (let order := [s.admission.pointer, s.admission.pointer + 1, s.admission.pointer + 2, s.admission.pointer + 3]
    (order.foldl State.visit s).acceptOne order) := by
  unfold State.pass
  rw [rotation_hosts]

theorem exec_localAnswerPlaced {s : State} {h : HPort} (hc : s.admission.heads[h] = .waiting .answerRoom)
    (hr : s.givesRoom h .localAnswer = true) : exec (.localAnswerPlaced h) s = .next (s.evaluateLocal h).settle :=
  if_pos ⟨hc, hr⟩

/-- A head that waits for answer room takes the answer of its new evaluation (R109). -/
theorem State.evaluateLocal_eq {s : State} {h : HPort} {p a : Packet} {rest : List Packet} {f : Option Report}
    (hin : s.hosts[h].link.ingress = p :: rest) (hd : s.decideHead h p = .answer a f) :
    s.evaluateLocal h = ((((s.setHost h fun y => { y with
        link := { y.link with ingress := rest, egress := y.link.egress ++ [a] }
        classPtr := .management }).setHead h (if rest = [] then .noHead else .presented)).report
          f.toList).acceptOne [h]) := by
  unfold State.evaluateLocal
  have hin' : (s.setHost h fun x => { x with classPtr := EgressClass.localAnswer.next }).hosts[h].link.ingress = p :: rest := by
    rw [State.host_setHost]
    exact hin
  have hd' := (s.decideHead_setHost h p (f := fun x => { x with classPtr := EgressClass.localAnswer.next }) rfl).trans hd
  rw [State.evaluate_head hin', hd']
  refine congrArg (State.acceptOne · [h]) ((State.answerLocally_of_room hin' rfl).trans ?_)
  unfold State.headLeft
  rw [State.setHost_setHost, State.setHost_setHost]

/-- Settles O21, from the equations of a visit, of the acceptance and of the pass. -/
theorem headTakesTheOutcomeOfItsEvaluation : Obligations.HeadTakesTheOutcomeOfItsEvaluation := by
  refine ⟨fun h s p rest hin hc => s.visit_outcomes hin hc, fun h s hc => State.visit_of_idle hc, ?_, ?_, ?_⟩
  · intro h s l p rest ready free
    exact ⟨fun hf hr hfirst hin => (State.acceptOne_of_ready (s.unitFree_iff.2 hf) hr hfirst).trans (State.accept_eq hin),
      fun hn => State.acceptOne_of_none (hn.imp_left fun hn => mt s.unitFree_iff.1 hn)⟩
  · intro h s u order
    refine ⟨fun hc => ?_, fun hc => if_neg hc⟩
    rw [exec_headPresented hc, State.pass_eq]
  · intro h s p a rest f hc hr hin hd
    rw [exec_localAnswerPlaced hc hr, State.evaluateLocal_eq hin hd]

/-! ## A presented head alone (R108, R116) -/

theorem State.visits_of_idle (l : List HPort) (s : State) (h : ∀ g ∈ l, s.admission.heads[g] = .noHead ∨ s.admission.heads[g] = .held) :
    l.foldl State.visit s = s := by
  induction l with
  | nil => rfl
  | cons g l ih =>
    rw [List.foldl_cons, State.visit_of_idle (h g List.mem_cons_self)]
    exact ih fun k hk => h k (List.mem_cons_of_mem _ hk)

/-- A pass that finds one head to evaluate visits that one alone. -/
theorem State.visits_of_one {s : State} {h : HPort} {l : List HPort} (hl : l.Nodup) (hh : h ∈ l)
    (hs : ∀ g, g ≠ h → s.admission.heads[g] = .noHead ∨ s.admission.heads[g] = .held)
    (ht : ∀ g, g ≠ h → (s.visit h).admission.heads[g] = s.admission.heads[g]) : l.foldl State.visit s = s.visit h := by
  obtain ⟨before, after, rfl⟩ := List.append_of_mem hh
  obtain ⟨-, hnodup, hdisjoint⟩ := List.nodup_append.1 hl
  have hbefore : ∀ g ∈ before, g ≠ h := fun g hg => hdisjoint g hg h List.mem_cons_self
  have hafter : ∀ g ∈ after, g ≠ h := fun g hg e => (List.nodup_cons.1 hnodup).1 (e ▸ hg)
  rw [List.foldl_append, State.visits_of_idle before s fun g hg => hs g (hbefore g hg), List.foldl_cons,
    State.visits_of_idle after _ fun g hg => ?_]
  rw [ht g (hafter g hg)]
  exact hs g (hafter g hg)

theorem State.setHead_heads_ne (s : State) {h g : HPort} (c : HeadCondition) (hg : g ≠ h) :
    (s.setHead h c).admission.heads[g] = s.admission.heads[g] := s.setHead_other h g c hg

theorem State.head_setHead (s : State) (h : HPort) (c : HeadCondition) : (s.setHead h c).admission.heads[h] = c :=
  s.setHead_self h c

/-- A tracked admission: the entry allocated, the request placed, the head gone, the pointer past its port (R108, R116). -/
def State.admittedTracked (s : State) (h : HPort) (p : Packet) (rest : List Packet) (x : Admitted) (k : EntryKind)
    (e : EntryIx) : State :=
  { (s.allocate h p x k e).headLeft h rest with
    admission := { ((s.allocate h p x k e).headLeft h rest).admission with pointer := h + 1 } }

/-- A tracked request takes the lowest FREE entry and goes out under its D-tag (R108, R127). -/
theorem State.admitting_tracked {s : State} {h : HPort} {p : Packet} {rest : List Packet} {x : Admitted} {k : EntryKind}
    {e : EntryIx} (hin : s.hosts[h].link.ingress = p :: rest) (hx : x.kind = some k) (he : s.tracker.lowestFree = some e) :
    s.admitting h p x = s.admittedTracked h p rest x k e := by
  unfold State.admitting
  rw [hx, he]
  dsimp only
  rw [State.removeHead_eq (s := s.allocate h p x k e) hin]
  rfl

/-- The pass of a presented head that is admitted, alone among the heads. -/
theorem exec_headPresented_admitting {s : State} {h : HPort} {p : Packet} {rest : List Packet} {x : Admitted} {k : EntryKind}
    {e : EntryIx} (hc : s.admission.heads[h] = .presented) (hin : s.hosts[h].link.ingress = p :: rest)
    (hother : ∀ g : HPort, g ≠ h → s.admission.heads[g] = .noHead ∨ s.admission.heads[g] = .held)
    (hd : s.decideHead h p = .admitting x) (hx : x.kind = some k) (he : s.tracker.lowestFree = some e) :
    exec (.headPresented h) s = .next (State.admittedTracked { s with admission := { s.admission with passDue := false } }
      h p rest x k e) := by
  rw [exec_headPresented hc]
  generalize hu : ({ s with admission := { s.admission with passDue := false } } : State) = u
  have hheads : u.admission.heads = s.admission.heads := by rw [← hu]
  have hhosts : u.hosts = s.hosts := by rw [← hu]
  have hdue : u.admission.passDue = false := by rw [← hu]
  have hdecide : u.decideHead h p = .admitting x := by
    rw [← hu]
    exact hd
  have hfree : u.tracker.lowestFree = some e := by rw [← hu]; exact he
  have hvisit : u.visit h = _ := (State.visit_of_evaluable (by rw [hhosts]; exact hin) (.inl (by rw [hheads]; exact hc))).trans
    ((congrArg _ hdecide).trans (State.admitting_tracked (by rw [hhosts]; exact hin) hx hfree))
  have hkept : ∀ g, g ≠ h → (u.visit h).admission.heads[g] = u.admission.heads[g] := fun g hg => by
    rw [hvisit]
    exact State.setHead_heads_ne _ _ hg
  have hquiet : ∀ g, g ≠ h → u.admission.heads[g] = .noHead ∨ u.admission.heads[g] = .held := by
    rw [hheads]
    exact hother
  have hvisits : (rotation 4 u.admission.pointer).foldl State.visit u = u.visit h := by
    refine State.visits_of_one ?_ ?_ hquiet hkept
    · exact (List.nodup_finRange 4).map fun i j hij => add_left_cancel hij
    · exact List.mem_map.2 ⟨h - u.admission.pointer, List.mem_finRange _, add_sub_cancel _ _⟩
  have hself : (u.visit h).admission.heads[h] = if rest = [] then .noHead else .presented := by
    rw [hvisit]
    exact State.head_setHead _ _ _
  have hnone : ∀ g, ¬ (u.visit h).ReadyIn (rotation 4 u.admission.pointer) g := by
    rintro g ⟨-, hg, -⟩
    by_cases hgh : g = h
    · rw [hgh, hself] at hg
      split at hg <;> cases hg
    · rw [hkept g hgh] at hg
      rcases hquiet g hgh with hq | hq <;> rw [hq] at hg <;> cases hg
  have hpass : u.pass = u.visit h := by
    unfold State.pass
    dsimp only
    rw [hvisits, State.acceptOne_of_none (.inr hnone)]
  rw [hpass, State.settleIn_of_not_due _ _ (by rw [hvisit]; exact hdue), hvisit]

theorem Vector.getElem_set_fin_self {α : Type} {n : Nat} (v : Vector α n) (i : Fin n) (x : α) : (v.set i x)[i] = x :=
  Vector.getElem_set_self i.isLt

theorem State.admittedTracked_ort (s : State) (h : HPort) (p : Packet) (rest : List Packet) (x : Admitted) (k : EntryKind)
    (e : EntryIx) : (s.admittedTracked h p rest x k e).tracker.ort =
      s.tracker.ort.set e (s.tracker.ort[e].allocated h p x k (s.deadlineFor x.target)) := rfl

theorem State.admittedTracked_targets (s : State) (h : HPort) (p : Packet) (rest : List Packet) (x : Admitted) (k : EntryKind)
    (e : EntryIx) : (s.admittedTracked h p rest x k e).targets = s.targets.set x.target
      (let t := s.targets[x.target]
      { t with link := { t.link with egress := t.link.egress ++
        [requestPacket p x (dTag e (!(s.tracker.ort[e]).phase))] } }) := rfl

theorem State.admittedTracked_hosts (s : State) (h : HPort) (p : Packet) (rest : List Packet) (x : Admitted) (k : EntryKind)
    (e : EntryIx) : (s.admittedTracked h p rest x k e).hosts =
      s.hosts.set h { s.hosts[h] with link := { s.hosts[h].link with ingress := rest } } := rfl

theorem dTag_eq (e : EntryIx) (b : Bool) : dTag e b = BitVec.ofNat 8 (2 * e.val + b.toNat) := by
  unfold dTag
  rw [Nat.mul_comm]

/-- Settles O20: the pass visits the presented head alone, and its admission allocates the lowest FREE entry. -/
theorem presentedHeadIsAdmittedUnderItsDTag : Obligations.PresentedHeadIsAdmittedUnderItsDTag := by
  intro h s p rest x k e hc hin hother hd hx he hfirst
  have hfree := (s.tracker.lowestFree_eq_some_iff e).2 ⟨he, hfirst⟩
  refine ⟨_, exec_headPresented_admitting hc hin hother hd hx hfree, ?_, fun f hf => ?_, ?_, fun c hcx => ?_, fun g hg => ?_,
    ?_, ?_, State.head_setHead _ _ _, rfl, rfl, rfl, rfl, rfl, rfl⟩
  · rw [State.admittedTracked_ort, Vector.getElem_set_fin_self]
    rfl
  · rw [State.admittedTracked_ort, Vector.getElem_set_fin_ne _ _ _ _ hf]
  · rw [State.admittedTracked_targets, Vector.getElem_set_fin_self]
    unfold requestPacket sentKind
    rw [hx, dTag_eq]
    simp only [Option.some.injEq]
    rfl
  · rw [State.admittedTracked_targets, Vector.getElem_set_fin_ne _ _ _ _ hcx]
  · rw [State.admittedTracked_hosts, Vector.getElem_set_fin_ne _ _ _ _ hg]
  · rw [State.admittedTracked_hosts, Vector.getElem_set_fin_self]
  · rw [State.admittedTracked_hosts, Vector.getElem_set_fin_self]

end Sys2Proof.Machine

/-! PROOFS. The request tracker's events (chapter 8): matching, handling, placing, expiry and quarantine end. -/

namespace Sys2Proof.Machine

-- One proof at a time: side by side they take more memory than the check allows.
set_option Elab.async false

section
variable {s : State} {e : Entry} {c : Packet}

/-! ## Matching (R146) -/

theorem Entry.names_iff (e : Entry) (d : DPort) (t : Byte) :
    (e.target = d ∧ e.phase = tagPhase t) ↔ e.target = d ∧ e.phase.toNat = t.toNat % 2 := by
  have hphase : e.phase = tagPhase t ↔ e.phase.toNat = t.toNat % 2 := by
    have hmod : (tagPhase t).toNat = t.toNat % 2 := by
      unfold tagPhase
      rcases Nat.mod_two_eq_zero_or_one t.toNat with h | h <;> rw [h] <;> rfl
    rw [← hmod]
    exact ⟨congrArg _, fun h => by revert h; cases e.phase <;> cases tagPhase t <;> decide⟩
  rw [hphase]

theorem Entry.compare_eq_matched_iff (e : Entry) (d : DPort) (t : Byte) : e.compare d t = .matched ↔
    (e.state = .waiting ∨ e.state = .receiving) ∧ e.target = d ∧ e.phase.toNat = t.toNat % 2 ∧ e.sent = true := by
  rw [← Entry.inFlight_iff]
  constructor
  · intro h
    obtain ⟨hflight, hsent, hnames⟩ := Entry.compare_matched h
    obtain ⟨htarget, hphase⟩ := (e.names_iff d t).1 hnames
    exact ⟨hflight, htarget, hphase, hsent⟩
  · rintro ⟨hflight, htarget, hphase, hsent⟩
    unfold Entry.compare
    rw [if_pos ((e.names_iff d t).2 ⟨htarget, hphase⟩), if_pos (by rw [hflight, hsent]; rfl)]

theorem Entry.compare_eq_late_iff (e : Entry) (d : DPort) (t : Byte) : e.compare d t = .late ↔
    e.state = .quarantined ∧ e.target = d ∧ e.phase.toNat = t.toNat % 2 := by
  rw [← e.names_iff]
  unfold Entry.compare
  split
  · next hn =>
    split
    · next hm =>
      rw [Bool.and_eq_true, Entry.inFlight_iff] at hm
      exact ⟨nofun, fun h => by rcases hm.1 with hs | hs <;> rw [hs] at h <;> cases h.1⟩
    · split
      · next hq => exact ⟨fun _ => ⟨hq, hn⟩, fun _ => rfl⟩
      · next hq => exact ⟨nofun, fun h => absurd h.1 hq⟩
  · next hn => exact ⟨nofun, fun h => absurd h.2 hn⟩

theorem exec_completionMatch {d : DPort} (hc : s.completionAt d = some c) :
    exec (.completionMatch d) s = .next (s.matchCompletion d c).settle := by
  change execCompletionMatch d s = _
  unfold execCompletionMatch
  rw [hc]
  rfl

theorem State.matchCompletion_matched {d : DPort} (hm : (s.tracker.ort[tagEntry c.tag]).compare d c.tag = .matched) :
    s.matchCompletion d c = s.handle d (tagEntry c.tag) c := by
  unfold State.matchCompletion
  dsimp only
  rw [hm]

theorem State.matchCompletion_late {d : DPort} (hm : (s.tracker.ort[tagEntry c.tag]).compare d c.tag = .late) :
    s.matchCompletion d c = (s.popIngress (.target d)).report
      [entryReport .lateCompletion (tagEntry c.tag) s.tracker.ort[tagEntry c.tag] (some c) .none] := by
  unfold State.matchCompletion
  dsimp only
  rw [hm]

theorem State.matchCompletion_unexpected {d : DPort} (hm : (s.tracker.ort[tagEntry c.tag]).compare d c.tag = .unexpected) :
    s.matchCompletion d c = (s.popIngress (.target d)).report [unexpectedReport d c] := by
  unfold State.matchCompletion
  dsimp only
  rw [hm]

end

/-- A completion under inspection comes from an UP target port; its record shows that port, which the entry names. -/
theorem entryReport_port {k : FaultKind} {ix : EntryIx} {e : Entry} {c : Option Packet} {x : Detail} {d : DPort}
    (h : e.target = d) : entryReport k ix e c x = { entryReport k ix e c x with port := .target d } := by
  rw [← h]
  rfl

/-- Settles O26: the comparison's table, and the discard with its report. -/
theorem unmatchedCompletionIsDiscarded : Obligations.UnmatchedCompletionIsDiscarded := by
  refine ⟨fun e d t => ⟨e.compare_eq_matched_iff d t, e.compare_eq_late_iff d t⟩, ?_⟩
  rintro d s c e hc rfl
  refine ⟨fun hl => ?_, fun hu => ?_⟩
  · obtain ⟨-, htarget, -⟩ := (Entry.compare_eq_late_iff _ d c.tag).1 hl
    rw [exec_completionMatch hc, State.matchCompletion_late hl, entryReport_port htarget]
    rfl
  · rw [exec_completionMatch hc, State.matchCompletion_unexpected hu]
    rfl

/-! ## Handling by kind (R147 to R152) -/

section
variable {s : State} {e : Entry} {c : Packet}

/-- A good chunk of a read (R148). -/
def Entry.Good (e : Entry) (c : Packet) : Prop :=
  e.kind = .read ∧ c.kind = some .cpd ∧ c.offset.toNat = e.delivered ∧ 1 ≤ c.length.toNat ∧
    c.offset.toNat + c.length.toNat ≤ e.length.toNat ∧
    (c.final = true ↔ c.offset.toNat + c.length.toNat = e.length.toNat)

/-- A CPS that ends its entry by its status (R149 to R151). -/
def Entry.EndsByStatus (e : Entry) (c : Packet) : Prop := c.kind = some .cps ∧ ¬ (e.kind = .read ∧ c.status = 0)

/-- The fault of a failed request of this kind (R149 to R151). -/
def Entry.failure (e : Entry) : FaultKind := if e.kind = .writeConverted then .absorbedWriteFailed else .targetAbort

theorem Entry.goodChunk_iff (e : Entry) (c : Packet) : e.goodChunk c = true ↔
    c.offset.toNat = e.delivered ∧ 1 ≤ c.length.toNat ∧ c.offset.toNat + c.length.toNat ≤ e.length.toNat ∧
      (c.final = true ↔ c.offset.toNat + c.length.toNat = e.length.toNat) := by
  unfold Entry.goodChunk
  rw [Bool.and_eq_true, Bool.and_eq_true, Bool.and_eq_true, beq_iff_eq, beq_iff_eq, decide_eq_true_iff, decide_eq_true_iff,
    Bool.eq_iff_iff, beq_iff_eq, and_assoc, and_assoc]

theorem Entry.handling_read_cpd (hk : e.kind = .read) (hc : c.kind = some .cpd) : e.handling c =
    if e.goodChunk c then (if c.final then .finalChunk c.length.toNat else .progress c.length.toNat) else .mismatch := by
  unfold Entry.handling
  rw [hk, hc]

theorem Entry.handling_good (hg : e.Good c) :
    e.handling c = if c.final then .finalChunk c.length.toNat else .progress c.length.toNat := by
  obtain ⟨hk, hc, hchunk⟩ := hg
  rw [Entry.handling_read_cpd hk hc, if_pos ((e.goodChunk_iff c).2 hchunk)]

theorem statusHandling_eq (st : Byte) (k : FaultKind) : statusHandling st k =
    .finalStatus (if st = 0 then .ok else .aborted) (if st = 0 then [] else if st = 5 then [k] else [k, .completionMismatch]) := by
  unfold statusHandling
  change (if st = 0 then _ else if st = 5 then _ else _) = _
  by_cases h0 : st = 0
  · rw [if_pos h0, if_pos h0, if_pos h0]
  · rw [if_neg h0, if_neg h0, if_neg h0]
    by_cases h5 : st = 5
    · rw [if_pos h5, if_pos h5]
    · rw [if_neg h5, if_neg h5]

/-- The handling of a CPS that ends its entry (R149 to R151). -/
theorem Entry.handling_status (hb : e.EndsByStatus c) : e.handling c = .finalStatus (if c.status = 0 then .ok else .aborted)
    (if c.status = 0 then [] else if c.status = 5 then [e.failure] else [e.failure, .completionMismatch]) := by
  obtain ⟨hc, hn⟩ := hb
  unfold Entry.handling Entry.failure
  rw [hc]
  cases hk : e.kind with
  | read =>
    have hst : ¬ c.status = 0 := fun h => hn ⟨hk, h⟩
    dsimp only
    rw [statusHandling_eq, if_neg hst]
    rfl
  | writeAck => exact statusHandling_eq _ _
  | writeConverted => exact statusHandling_eq _ _

/-- What breaks the rules of the kind is a mismatch (R152). -/
theorem Entry.handling_mismatch (hc : c.kind = some .cpd ∨ c.kind = some .cps) (hg : ¬ e.Good c) (hb : ¬ e.EndsByStatus c) :
    e.handling c = .mismatch := by
  rcases hc with hc | hc
  · cases hk : e.kind with
    | read => exact (Entry.handling_read_cpd hk hc).trans (if_neg fun h => hg ⟨hk, hc, (e.goodChunk_iff c).1 h⟩)
    | writeAck => unfold Entry.handling; rw [hk, hc]
    | writeConverted => unfold Entry.handling; rw [hk, hc]
  · have hread : e.kind = .read ∧ c.status = 0 := not_not.1 fun h => hb ⟨hc, h⟩
    unfold Entry.handling
    rw [hread.1, hc]
    dsimp only
    rw [statusHandling_eq, if_pos hread.2]

theorem Entry.answers_iff (e : Entry) : e.answers = true ↔ e.orphaned = false ∧ e.kind ≠ .writeConverted := by
  simp [Entry.answers]

theorem State.completionAt_kind {d : DPort} (h : s.completionAt d = some c) : c.kind = some .cpd ∨ c.kind = some .cps := by
  unfold State.completionAt at h
  split at h
  · split at h
    · next hc =>
      cases h
      simp only [Bool.and_eq_true, Bool.or_eq_true, beq_iff_eq] at hc
      exact hc.2
    · cases h
  · cases h

/-- The host of an entry that is sent its packets is sent `q`; else the completion is gone (R147). -/
def State.forward (s : State) (d : DPort) (e : Entry) (q : Packet) : State :=
  if e.orphaned = false ∧ e.kind ≠ .writeConverted then s.produce d e.host q else s.popIngress (.target d)

/-- A handling in its steps: the entry, the wake event, the packet, the faults, the drain (R89, R147). -/
theorem State.handle_eq {d : DPort} {ix : EntryIx} {x : Handling} (he : e = s.tracker.ort[ix]) (hx : e.handling c = x) :
    s.handle d ix c = ((State.forward
      (if x.ends then (s.setEntry ix fun _ => e.after x s.now (tQrt s.targets[d].timeoutCode)).wake
        else s.setEntry ix fun _ => e.after x s.now (tQrt s.targets[d].timeoutCode)) d e (e.answer x c)).report
      (x.faults.map fun k => entryReport k ix e (some c) .none)).drainCheck := by
  have hentry : (s.setEntry ix fun y => y.after x s.now (tQrt s.targets[d].timeoutCode)) =
      s.setEntry ix fun _ => e.after x s.now (tQrt s.targets[d].timeoutCode) := s.setEntry_congr ix (by rw [he])
  unfold State.handle State.forward
  dsimp only
  rw [← he, hx, hentry]
  simp only [Entry.answers_iff]

theorem exec_completionMatch_matched {d : DPort} {x : Handling} (hc : s.completionAt d = some c)
    (he : e = s.tracker.ort[tagEntry c.tag]) (hm : e.compare d c.tag = .matched) (hx : e.handling c = x) :
    exec (.completionMatch d) s = .next (((State.forward
      (if x.ends then (s.setEntry (tagEntry c.tag) fun _ => e.after x s.now (tQrt s.targets[d].timeoutCode)).wake
        else s.setEntry (tagEntry c.tag) fun _ => e.after x s.now (tQrt s.targets[d].timeoutCode)) d e (e.answer x c)).report
      (x.faults.map fun k => entryReport k (tagEntry c.tag) e (some c) .none)).drainCheck).settle := by
  rw [exec_completionMatch hc, State.matchCompletion_matched (by rw [← he]; exact hm), State.handle_eq he hx]

end

/-- Settles O27, by the handling of the completion. -/
theorem matchedCompletionIsHandledByKind : Obligations.MatchedCompletionIsHandledByKind := by
  intro d s c ix e hc hix he hm good byStatus free kept failure faults send chunk cps
  subst hix
  refine ⟨fun hg hf => ?_, fun hg hf => ?_, fun hb => ?_, fun hg hb => ?_⟩
  · rw [exec_completionMatch_matched hc he hm ((Entry.handling_good hg).trans (if_neg (by rw [hf]; exact nofun)))]
    rfl
  · rw [exec_completionMatch_matched hc he hm ((Entry.handling_good hg).trans (if_pos hf))]
    rfl
  · have hcode : Status.code (if c.status = 0 then Status.ok else .aborted) = if c.status = 0 then 0 else 5 := by
      split <;> rfl
    rw [exec_completionMatch_matched hc he hm (Entry.handling_status hb), ← hcode]
    rfl
  · rw [exec_completionMatch_matched hc he hm (Entry.handling_mismatch (State.completionAt_kind hc) hg hb)]
    rfl

/-! ## Placing (R155) -/

/-- The next candidate is that of the first target port at or after the pointer that has one (R155). -/
theorem Tracker.nextCandidate_eq {t : Tracker} {h : HPort} {d : DPort} {c : Candidate} (hd : t.candidate h d = some c)
    (hfirst : ∀ x : DPort, (x - t.pointers[h]).val < (d - t.pointers[h]).val → t.candidate h x = none) :
    t.nextCandidate h = some (d, c) := by
  have hfind : (rotation 6 t.pointers[h]).find? (fun x => (t.candidate h x).isSome) = some d := by
    refine (find?_rotation_eq_some_iff _ _ _).2 ⟨by rw [hd]; rfl, fun x hx => Nat.le_of_not_lt fun hlt => ?_⟩
    rw [hfirst x hlt] at hx
    cases hx
  obtain ⟨-, before, after, hsplit, hnone⟩ := List.find?_eq_some_iff_append.1 hfind
  refine List.findSome?_eq_some_iff.2 ⟨before, d, after, hsplit, by rw [hd]; rfl, fun x hx => ?_⟩
  have hno := hnone x hx
  rw [Bool.not_eq_true', Option.isSome_eq_false_iff, Option.isNone_iff_eq_none] at hno
  rw [hno]
  rfl

/-- A packet at an ingress head is placed (R153, R155). -/
theorem State.placeTracker_head {s : State} {h : HPort} {d : DPort} {w : Produced} (hr : s.givesRoom h .tracker = true)
    (hn : s.tracker.nextCandidate h = some (d, .head w)) : s.placeTracker h = { s with
      hosts := s.hosts.set h { s.hosts[h] with
        link := { s.hosts[h].link with egress := s.hosts[h].link.egress ++ [w.packet] }, classPtr := .notification }
      targets := s.targets.set d { s.targets[d] with
        link := { s.targets[d].link with ingress := s.targets[d].link.ingress.tail } }
      tracker := { s.tracker with
        waiting := s.tracker.waiting.set d none, pointers := s.tracker.pointers.set h (d + 1) } } := by
  unfold State.placeTracker
  rw [if_pos hr, hn]
  rfl

/-- An item of the answer list is placed, a wake event (R113, R155). -/
theorem State.placeTracker_item {s : State} {h : HPort} {d : DPort} {a : AnswerItem} (hr : s.givesRoom h .tracker = true)
    (hn : s.tracker.nextCandidate h = some (d, .item a)) : s.placeTracker h = { s with
      hosts := s.hosts.set h { s.hosts[h] with
        link := { s.hosts[h].link with egress := s.hosts[h].link.egress ++
          [{ kindCode := 5, tag := a.hostTag, status := a.status.code, final := true }] }
        classPtr := .notification }
      tracker := { s.tracker with
        answers := s.tracker.answers.set h ((s.tracker.answers[h]).erase a)
        pointers := s.tracker.pointers.set h (d + 1) }
      admission := { s.admission with passDue := true } } := by
  unfold State.placeTracker
  rw [if_pos hr, hn]
  rfl

theorem exec_trackerPacketPlaced (h : HPort) (s : State) : exec (.trackerPacketPlaced h) s = .next (s.placeTracker h).settle := rfl

/-- Settles O28, by the search over the rotation. -/
theorem trackerPlacesTheNextCandidate : Obligations.TrackerPlacesTheNextCandidate := by
  intro h s d hr hfirst
  refine ⟨fun w hw hdue => ?_, fun a ha => ?_⟩
  · rw [exec_trackerPacketPlaced, State.placeTracker_head hr (Tracker.nextCandidate_eq hw hfirst)]
    exact congrArg _ (State.settle_of_not_due _ hdue)
  · rw [exec_trackerPacketPlaced, State.placeTracker_item hr (Tracker.nextCandidate_eq ha hfirst)]

/-! ## Expiry and quarantine end (R137, R138, R156) -/

section
variable {s : State} {ix : EntryIx} {e : Entry}

/-- What follows an expiry at its entry: the wake event, the answer owed, the report, the drain (R89, R156). -/
def State.afterExpiry (v : State) (ix : EntryIx) (e : Entry) : State :=
  ((if e.orphaned = false ∧ e.kind ≠ .writeConverted then v.wake.appendAnswer e.host e.hostTag .expired e.target
    else v.wake).report [entryReport .completionTimeout ix e none e.timeoutDetail]).drainCheck

theorem State.expire_unsent (he : e = s.tracker.ort[ix]) (hs : e.sent = false) : s.expire ix =
    State.afterExpiry ((s.withdrawRequest ix).setEntry ix fun _ => { e with state := .free }) ix e := by
  subst he
  have hentry : ((s.withdrawRequest ix).setEntry ix fun y => { y with state := .free }) =
      (s.withdrawRequest ix).setEntry ix fun _ => { s.tracker.ort[ix] with state := .free } :=
    (s.withdrawRequest ix).setEntry_congr ix rfl
  have hunsent : ¬ (s.tracker.ort[ix]).sent = true := by rw [hs]; exact nofun
  unfold State.expire State.afterExpiry
  dsimp only
  rw [if_neg hunsent, hentry]
  simp only [Entry.answers_iff]

theorem State.expire_sent (he : e = s.tracker.ort[ix]) (hs : e.sent = true) : s.expire ix =
    State.afterExpiry (s.setEntry ix fun _ => e.quarantinedUntil (s.now + tQrt s.targets[e.target].timeoutCode)) ix e := by
  subst he
  unfold State.expire State.afterExpiry
  dsimp only
  rw [if_pos hs]
  simp only [Entry.answers_iff]
  rfl

theorem exec_expiry {m : Nat} (hf : (s.tracker.ort[ix]).inFlight = true) (hd : (s.tracker.ort[ix]).deadline = some m) :
    exec (.expiry ix) s = .next ((s.reach m).expire ix).settle := by
  change execExpiry ix s = _
  unfold execExpiry
  rw [hf, hd]
  rfl

theorem exec_quarantineEnd {m : Nat} (hs : (s.tracker.ort[ix]).state = .quarantined)
    (hq : (s.tracker.ort[ix]).quarantine = some m) :
    exec (.quarantineEnd ix) s = .next (((s.reach m).setEntry ix Entry.freed).wake).settle := by
  change execQuarantineEnd ix s = _
  unfold execQuarantineEnd
  rw [hs, hq]
  rfl

end

theorem Entry.timeoutDetail_eq (e : Entry) : e.timeoutDetail =
    if e.sent = false then .notSent else if e.kind = .writeConverted then .absorbed else .none := by
  unfold Entry.timeoutDetail
  cases e.sent <;> rfl

/-- Settles O29, by whether the request was sent. -/
theorem expiryFreesOrQuarantines : Obligations.ExpiryFreesOrQuarantines := by
  refine ⟨?_, fun ix s m hs hq => exec_quarantineEnd hs hq⟩
  intro ix s e m he hf hd u after
  have hexec : exec (.expiry ix) s = _ := exec_expiry (by rw [← he]; exact e.inFlight_iff.2 hf) (by rw [← he]; exact hd)
  have hafter : ∀ v : State, after v = (v.afterExpiry ix e).settle := fun v => by
    unfold State.afterExpiry entryReport
    rw [Entry.timeoutDetail_eq]
    rfl
  refine ⟨fun hs => ?_, fun hs => ?_⟩
  · rw [hexec, hafter, State.expire_unsent (s := s.reach m) he hs]
    subst he
    rfl
  · rw [hexec, hafter, State.expire_sent (s := s.reach m) he hs]
    rfl

end Sys2Proof.Machine

/-! PROOFS. The commit engine's events (chapter 5) and the end of an aperture access (chapter 11). -/

namespace Sys2Proof.Machine

-- One proof at a time: side by side they take more memory than the check allows.
set_option Elab.async false

section
variable {s : State}

/-! ## Validation, drain and expiry of a commit (R85 to R91) -/

theorem exec_validationComplete {m : CommitMode} (he : s.commit.engine = .validating m) :
    exec .validationComplete s = .next (s.endValidation m).settle := by
  change execValidationComplete s = _
  unfold execValidationComplete
  rw [he]
  rfl

theorem exec_drainComplete (s : State) : exec .drainComplete s = .next s.drainCheck.settle := rfl

theorem exec_tDrnExpiry {m : Nat} (he : s.commit.engine = .draining) (ht : s.commit.tDrn = some m) :
    exec .tDrnExpiry s = .next (((s.reach m).giveUpCommit .drainExpired).wake).settle := by
  change execTDrnExpiry s = _
  unfold execTDrnExpiry
  rw [he, ht]
  rfl

theorem State.endValidation_failed {m : CommitMode} {f : ValidationFailure} (hf : s.banks.staging.validate = some f) :
    s.endValidation m = s.failCommit f := by
  unfold State.endValidation
  rw [hf]

theorem State.endValidation_passed {m : CommitMode} (hf : s.banks.staging.validate = none) :
    s.endValidation m = if m = .drain ∧ s.tracker.inFlightCount ≠ 0 then s.beginDrain else s.swap := by
  unfold State.endValidation
  rw [hf]

end

/-- Settles O41, from the equations of the engine's events. -/
theorem commitEndsInFailureSwapOrExpiry : Obligations.CommitEndsInFailureSwapOrExpiry := by
  refine ⟨?_, fun s hn => ?_, ?_⟩
  · intro s m he ended
    refine ⟨fun f hf => ?_, fun hf hswap => ?_, fun hf hm hn => ?_⟩
    · rw [exec_validationComplete he, State.endValidation_failed hf]
      rfl
    · have hno : ¬ (m = .drain ∧ s.tracker.inFlightCount ≠ 0) := fun ⟨hm, hn⟩ =>
        hswap.elim (fun h => by rw [hm] at h; cases h) hn
      rw [exec_validationComplete he, State.endValidation_passed hf, if_neg hno]
      rfl
    · rw [exec_validationComplete he, State.endValidation_passed hf, if_pos ⟨hm, hn⟩, Nat.mul_comm]
      rfl
  · exact if_neg fun ⟨he, hc⟩ => hn.elim (fun h => h he) fun h => h hc
  · intro s he ended
    refine ⟨fun hc => ⟨exec_drainComplete s, if_pos ⟨he, hc⟩⟩, fun m hm => ?_⟩
    rw [exec_tDrnExpiry he hm]
    rfl

/-! ## The end of an access (R117) -/

section
variable {s : State} {h : HPort} {p : Packet} {a : Access}

/-- An answer entered in class MANAGEMENT (R117). -/
def State.answerEntered (s : State) (h : HPort) (p : Packet) : State :=
  (((s.setAnswer h p).placeHost h .management p).clearAnswer h).wake

theorem State.presentAnswer_not_carried (hc : ¬ (s.hosts[h].link.state = .up ∨ s.hosts[h].link.state = .isolated)) :
    s.presentAnswer h (some p) = s := by
  rw [State.presentAnswer_some, if_neg (mt (LinkState.carries_iff _).1 hc)]

theorem State.presentAnswer_carried (hc : s.hosts[h].link.state = .up ∨ s.hosts[h].link.state = .isolated)
    (hu : s.mgmt.unit = .accessing a) : s.presentAnswer h (some p) =
      if s.givesRoom h .management then s.answerEntered h p else s.setAnswer h p := by
  have hset : (s.setAnswer h p).mgmt.answers[h] = some p := Vector.getElem_set_fin_self _ _ _
  have hroom : (s.setAnswer h p).givesRoom h .management = s.givesRoom h .management :=
    s.givesRoom_management h h s.mgmt.result s.mgmt.unit (some p)
  rw [State.presentAnswer_some, if_pos ((LinkState.carries_iff _).2 hc)]
  unfold State.enterAnswer
  rw [hset]
  dsimp only
  rw [hroom]
  exact if_congr Iff.rfl (State.answerGone_of_accessing (s := s.answerEntered h p) (a := a) hu) rfl

/-- What the unit's becoming FREE leaves as it was. -/
theorem State.freeUnit_rest (s : State) (h : HPort) : (s.freeUnit h).targets = s.targets ∧
    (s.freeUnit h).tracker = s.tracker ∧ (s.freeUnit h).banks = s.banks ∧ (s.freeUnit h).commit = s.commit ∧
    (s.freeUnit h).recorder = s.recorder ∧ (s.freeUnit h).notifier = s.notifier := by
  rw [State.freeUnit_eq, State.leaveHeld_eq]
  split <;> exact ⟨rfl, rfl, rfl, rfl, rfl, rfl⟩

theorem State.freeUnit_head (s : State) (h : HPort) : (s.freeUnit h).admission.heads[h] =
    if s.admission.heads[h] = .held then
      if s.hostUp h = true ∧ s.hosts[h].link.ingress ≠ [] then .presented else .noHead
    else s.admission.heads[h] := by
  change (s.unitFreed.leaveHeld h).admission.heads[h] = _
  split
  · next hh =>
    refine (State.leaveHeld_head_self (s := s.unitFreed) hh).trans ?_
    refine if_congr ?_ rfl rfl
    change (s.hostUp h && !(s.hosts[h]).link.ingress.isEmpty) = true ↔ _
    rw [Bool.and_eq_true, Bool.not_eq_true', List.isEmpty_eq_false_iff]
  · next hh => rw [s.unitFreed.leaveHeld_of_not_held hh]; rfl

end

/-- What the presented answer leaves as it was, with the unit on the access. -/
theorem State.presentAnswer_rest {s : State} {h : HPort} {p : Packet} {a : Access} (hu : s.mgmt.unit = .accessing a) :
    let t := s.presentAnswer h (some p)
    t.mgmt.action = s.mgmt.action ∧ t.admission.heads = s.admission.heads ∧ t.hostUp h = s.hostUp h ∧
      t.hosts[h].link.ingress = s.hosts[h].link.ingress ∧ t.targets = s.targets ∧ t.tracker = s.tracker ∧
      t.banks = s.banks ∧ t.commit = s.commit ∧ t.recorder = s.recorder ∧ t.notifier = s.notifier := by
  intro t
  by_cases hc : s.hosts[h].link.state = .up ∨ s.hosts[h].link.state = .isolated
  · have ht : t = if s.givesRoom h .management then s.answerEntered h p else s.setAnswer h p :=
      State.presentAnswer_carried hc hu
    rw [ht]
    split
    · have hhost : (s.answerEntered h p).hosts[h] = { s.hosts[h] with
          link := { s.hosts[h].link with egress := s.hosts[h].link.egress ++ [p] }, classPtr := .tracker } :=
        Vector.getElem_set_fin_self _ _ _
      refine ⟨rfl, rfl, ?_, by rw [hhost], rfl, rfl, rfl, rfl, rfl, rfl⟩
      unfold State.hostUp
      rw [hhost]
    · exact ⟨rfl, rfl, rfl, rfl, rfl, rfl, rfl, rfl, rfl, rfl⟩
  · have ht : t = s := State.presentAnswer_not_carried hc
    rw [ht]
    exact ⟨rfl, rfl, rfl, rfl, rfl, rfl, rfl, rfl, rfl, rfl⟩

/-- Settles O42: the answer is presented, then the unit is freed. -/
theorem completedAccessFreesTheUnit : Obligations.CompletedAccessFreesTheUnit := by
  intro s a p hu h carries t
  have ht : t = (s.presentAnswer h (some p)).freeUnit h := rfl
  obtain ⟨haction, hheads, hup, hingress, htargets, htracker, hbanks, hcommit, hrecorder, hnotifier⟩ :=
    State.presentAnswer_rest (h := h) (p := p) hu
  obtain ⟨kt, kk, kb, kc, kr, kn⟩ := (s.presentAnswer h (some p)).freeUnit_rest h
  have hhosts : t.hosts = (s.presentAnswer h (some p)).hosts := State.freeUnit_hosts _ h
  have hmgmt : t.mgmt = { (s.presentAnswer h (some p)).mgmt with unit := .free } := State.freeUnit_mgmt _ h
  refine ⟨by rw [hmgmt], by rw [hmgmt]; exact haction, rfl, ?_, fun hc hr => ?_, fun hc hr => ?_, fun hc => ?_,
    kk.trans htracker, kb.trans hbanks, kc.trans hcommit, kr.trans hrecorder, kn.trans hnotifier, kt.trans htargets,
    State.sameSettings_of_fixed (s.completeAccess_fixed a (some p))⟩
  · rw [ht, State.freeUnit_head, hheads, hup, hingress]
  · have hentered : s.presentAnswer h (some p) = s.answerEntered h p := (State.presentAnswer_carried hc hu).trans (if_pos hr)
    have hhost : t.hosts[h] = { s.hosts[h] with
        link := { s.hosts[h].link with egress := s.hosts[h].link.egress ++ [p] }, classPtr := .tracker } := by
      rw [hhosts, hentered]
      exact Vector.getElem_set_fin_self _ _ _
    refine ⟨by rw [hhost], ?_, by rw [hhost]⟩
    rw [hmgmt, hentered]
    exact Vector.getElem_set_fin_self _ _ _
  · have hwaits : s.presentAnswer h (some p) = s.setAnswer h p :=
      (State.presentAnswer_carried hc hu).trans (if_neg (by rw [hr]; exact nofun))
    refine ⟨by rw [hhosts, hwaits]; rfl, ?_⟩
    rw [hmgmt, hwaits]
    exact Vector.getElem_set_fin_self _ _ _
  · rw [hhosts, hmgmt, State.presentAnswer_not_carried hc]
    exact ⟨rfl, rfl⟩

end Sys2Proof.Machine

/-! PROOFS. Register writes and aperture reads (chapter 11): what ends an access, and the words that a write takes. -/

namespace Sys2Proof.Machine

-- One proof at a time: side by side they take more memory than the check allows.
set_option Elab.async false

section
variable {s : State} {a : Access}

/-! ## The step that ends an access (R117, R196) -/

/-- What a step does with the access it ends; without one it does nothing. -/
def State.onAccess (s : State) (i : Instr) (f : Access → Result) : Result :=
  match s.accessFor i with
  | some a => f a
  | none => .next s

theorem State.onAccess_of_executes {i : Instr} (hx : s.executes a i) (f : Access → Result) : s.onAccess i f = f a := by
  unfold State.onAccess
  rw [accessFor_of_executes hx]

theorem exec_grantSetWrite (hx : s.executes a .grantSetWrite) : exec .grantSetWrite s = endWrite a (s.writeGrant a.value) :=
  State.onAccess_of_executes hx fun a => endWrite a (s.writeGrant a.value)

theorem exec_apertureBaseWrite (hx : s.executes a .apertureBaseWrite) :
    exec .apertureBaseWrite s = endWrite a (s.writeBase a.value) :=
  State.onAccess_of_executes hx fun a => endWrite a (s.writeBase a.value)

theorem exec_faultClassWrite (hx : s.executes a .faultClassWrite) :
    exec .faultClassWrite s = endWrite a (s.writeClass a.reg a.value) :=
  State.onAccess_of_executes hx fun a => endWrite a (s.writeClass a.reg a.value)

theorem exec_settingWrite (hx : s.executes a .settingWrite) :
    exec .settingWrite s = endWrite a (s.writeSetting a.reg a.value) :=
  State.onAccess_of_executes hx fun a => endWrite a (s.writeSetting a.reg a.value)

theorem exec_stagingWrite (hx : s.executes a .stagingWrite) :
    exec .stagingWrite s = endWrite a (s.writeStaging a.reg a.value) :=
  State.onAccess_of_executes hx fun a => endWrite a (s.writeStaging a.reg a.value)

theorem exec_portConfigWrite (hx : s.executes a .portConfigWrite) :
    exec .portConfigWrite s = endWrite a (s.writePort a.reg a.value) :=
  State.onAccess_of_executes hx fun a => endWrite a (s.writePort a.reg a.value)

theorem exec_latchedRead (hx : s.executes a .latchedRead) : exec .latchedRead s =
    .next ((s.latchOnRead a.port a.reg).completeAccess a (some (s.readAnswer a))).settle :=
  State.onAccess_of_executes hx fun a => settled ((s.latchOnRead a.port a.reg).completeAccess a (some (s.readAnswer a)))

theorem exec_malformedApertureAccess (hx : s.executes a .malformedApertureAccess) : exec .malformedApertureAccess s =
    .next ((s.completeAccess a (a.statusAnswer .malformed)).report
      [requestReport .malformedRequest (.host a.port) a.packet none]).settle :=
  State.onAccess_of_executes hx fun a => settled ((s.completeAccess a (a.statusAnswer .malformed)).report
    [requestReport .malformedRequest (.host a.port) a.packet none])

/-- The end of an access changes no setting. -/
theorem State.accessEnd_sameSettings (s : State) (a : Access) (p : Option Packet) :
    SameSettings s (s.completeAccess a p).settle :=
  State.sameSettings_of_fixed ((State.settle_fixed _).trans (s.completeAccess_fixed a p))

/-! ## The words (R76, R96, R165, R193, R195, R197) -/

theorem endWrite_taken {x : State × WriteOutcome} {u : State} (hx : x = (u, .taken)) :
    endWrite a x = .next (u.completeAccess a (a.statusAnswer .ok)).settle := by rw [hx]; rfl

theorem endWrite_denied {x : State × WriteOutcome} {u : State} (hx : x = (u, .denied)) :
    endWrite a x = .next (u.completeAccess a (a.statusAnswer .denied)).settle := by rw [hx]; rfl

theorem endWrite_busy {x : State × WriteOutcome} {u : State} (hx : x = (u, .busy)) :
    endWrite a x = .next (u.completeAccess a (a.statusAnswer .busy)).settle := by rw [hx]; rfl

/-- A write that is taken: the access completes with OK, and nothing after the write changes a setting. -/
theorem exec_taken {c : Instr} {x : State × WriteOutcome} {u : State} (he : exec c s = endWrite a x) (hx : x = (u, .taken)) :
    ∃ t, exec c s = .next t ∧ SameSettings u t ∧ t = (u.completeAccess a (a.statusAnswer .ok)).settle :=
  ⟨_, he.trans (endWrite_taken hx), u.accessEnd_sameSettings a _, rfl⟩

theorem SameSettings.classOf {t : State} (h : SameSettings s t) (k : FaultKind) : t.classOf k = s.classOf k := by
  unfold State.classOf
  rw [h.classes]

theorem State.writeClass_eq {k : FaultKind} (v : Word) : s.writeClass (.faultClass k) v =
    if k.allows (FaultClass.ofCode (bits v 0 2)) then
      ({ s with mgmt := { s.mgmt with classes := s.mgmt.classes.set k.code (FaultClass.ofCode (bits v 0 2)) } }, .taken)
    else (s, .denied) := rfl

theorem State.writeBase_eq (v : Word) : s.writeBase v =
    ({ s with mgmt := { s.mgmt with apertureBase := bits v 0 24 } }, .taken) := rfl

theorem State.writeSetting_resendLimit (v : Word) : s.writeSetting .resendLimit v =
    ({ s with notifier := { s.notifier with resendLimit := (bits v 0 3).toNat } }, .taken) := rfl

theorem State.writeStaging_unassigned (n : WinIx) (v : Word) : s.writeStaging (.stagingWindow n 3) v = (s, .denied) := by
  unfold State.writeStaging
  exact if_pos rfl

/-- A word without a rule of its own is refused (R196). -/
theorem State.writeSetting_other {r : Reg} (v : Word) (hd : r ≠ .drainDeadline) (ht : r ≠ .tRntCode) (hr : r ≠ .resendLimit) :
    s.writeSetting r v = (s, .denied) := by
  unfold State.writeSetting
  split
  · exact absurd rfl ht
  · exact absurd rfl hr
  · exact absurd rfl hd
  · rfl

end

/-- Settles O45, first part: the writes of the grant set, the aperture base and the class table. -/
theorem grant_base_class_writes (s : State) (a : Access) :
    let ended (u : State) (st : Status) : State := (u.completeAccess a (a.statusAnswer st)).settle
    let refused (c : Instr) : Prop := ∃ t, exec c s = .next t ∧ t = ended s .denied ∧ SameSettings s t
    (s.executes a .grantSetWrite →
      (bits a.value 0 4 ≠ 0 → ∃ t, exec .grantSetWrite s = .next t ∧ t.mgmt.grant = bits a.value 0 4 ∧
        t = ended { s with mgmt := { s.mgmt with grant := bits a.value 0 4 } } .ok) ∧
      (bits a.value 0 4 = 0 → refused .grantSetWrite)) ∧
    (s.executes a .apertureBaseWrite →
      ∃ t, exec .apertureBaseWrite s = .next t ∧ t.mgmt.apertureBase = bits a.value 0 24 ∧
        t = ended { s with mgmt := { s.mgmt with apertureBase := bits a.value 0 24 } } .ok) ∧
    (s.executes a .faultClassWrite → ∀ k, a.reg = .faultClass k →
      (k.allows (FaultClass.ofCode (bits a.value 0 2)) = true →
        ∃ t, exec .faultClassWrite s = .next t ∧ t.classOf k = FaultClass.ofCode (bits a.value 0 2) ∧
          t = ended { s with mgmt := { s.mgmt with
            classes := s.mgmt.classes.set k.code (FaultClass.ofCode (bits a.value 0 2)) } } .ok) ∧
      (k.allows (FaultClass.ofCode (bits a.value 0 2)) = false → refused .faultClassWrite)) := by
  intro ended refused
  have hended : ∀ u st, SameSettings u (ended u st) := fun u st => u.accessEnd_sameSettings a _
  refine ⟨fun hx => ⟨fun hv => ?_, fun hv => ?_⟩, fun hx => ?_, fun hx k hk => ⟨fun hv => ?_, fun hv => ?_⟩⟩
  · obtain ⟨t, hexec', hkept, ht⟩ := exec_taken (exec_grantSetWrite hx) (if_neg hv)
    exact ⟨t, hexec', hkept.grant, ht⟩
  · exact ⟨_, (exec_grantSetWrite hx).trans (endWrite_denied (if_pos hv)), rfl, hended s .denied⟩
  · obtain ⟨t, hexec', hkept, ht⟩ := exec_taken (exec_apertureBaseWrite hx) (s.writeBase_eq a.value)
    exact ⟨t, hexec', hkept.apertureBase, ht⟩
  · have hset : State.classOf { s with mgmt := { s.mgmt with
        classes := s.mgmt.classes.set k.code (FaultClass.ofCode (bits a.value 0 2)) } } k = FaultClass.ofCode (bits a.value 0 2) :=
      Vector.getElem_set_fin_self _ _ _
    have hw := (s.writeClass_eq (k := k) a.value).trans (if_pos hv)
    rw [← hk] at hw
    obtain ⟨t, hexec, hkept, ht⟩ := exec_taken (exec_faultClassWrite hx) hw
    exact ⟨t, hexec, (hkept.classOf k).trans hset, ht⟩
  · have hw := (s.writeClass_eq (k := k) a.value).trans (if_neg (by rw [hv]; exact nofun))
    rw [← hk] at hw
    exact ⟨_, (exec_faultClassWrite hx).trans (endWrite_denied hw), rfl, hended s .denied⟩

/-- Settles O45: each register's own rule, then the end of the access. -/
theorem registerWritesTakeEffectOrAreRefused : Obligations.RegisterWritesTakeEffectOrAreRefused := by
  refine ⟨grant_base_class_writes, ?_, ?_⟩
  · intro s a hx ended denied
    have hexec : ∀ {r}, a.reg = r → exec .settingWrite s = endWrite a (s.writeSetting r a.value) := fun hr => by
      rw [exec_settingWrite hx, hr]
    refine ⟨fun hr hv => ?_, fun hr hv => ?_, fun hr hv => ?_, fun hr hv => ?_, fun hr => ?_, fun hd ht hl => ?_⟩
    · obtain ⟨t, hexec', hkept, ht⟩ := exec_taken (hexec hr) (if_neg hv)
      exact ⟨t, hexec', hkept.drainDeadline, ht⟩
    · exact (hexec hr).trans (endWrite_denied (if_pos hv))
    · obtain ⟨t, hexec', hkept, ht⟩ := exec_taken (hexec hr) (if_pos hv)
      exact ⟨t, hexec', hkept.tRntCode, ht⟩
    · exact (hexec hr).trans (endWrite_denied (if_neg (by rw [hv]; decide)))
    · obtain ⟨t, hexec', hkept, ht⟩ := exec_taken (hexec hr) (s.writeSetting_resendLimit a.value)
      exact ⟨t, hexec', hkept.resendLimit, ht⟩
    · exact (hexec rfl).trans (endWrite_denied (s.writeSetting_other a.value hd ht hl))
  · intro s a hx ended b
    have hexec : ∀ {r}, a.reg = r → exec .stagingWrite s = endWrite a (s.writeStaging r a.value) := fun hr => by
      rw [exec_stagingWrite hx, hr]
    refine ⟨fun n i hr hi he => ?_, fun n i hr he => ?_, fun n i hr hi he => ?_, fun n i hr he => ?_, fun n hr => ?_⟩
    · exact (hexec hr).trans (endWrite_taken ((if_neg hi).trans (if_neg (not_not.2 he))))
    · exact (hexec hr).trans (endWrite_taken (if_neg (not_not.2 he)))
    · exact (hexec hr).trans (endWrite_busy ((if_neg hi).trans (if_pos he)))
    · exact (hexec hr).trans (endWrite_busy (if_pos he))
    · exact (hexec hr).trans (endWrite_denied (s.writeStaging_unassigned n a.value))

end Sys2Proof.Machine

/-! PROOFS. Port configuration writes, aperture reads and malformed accesses (section 2.7, chapter 11). -/

namespace Sys2Proof.Machine

-- One proof at a time: side by side they take more memory than the check allows.
set_option Elab.async false

section
variable {s : State} {a : Access}

/-! ## Port configuration (R41, R43) -/

theorem attemptLimitOk_iff (n : Nat) : attemptLimitOk n = true ↔ 1 ≤ n ∧ n ≤ 4 := by
  simp [attemptLimitOk]

theorem hostLimitOk_iff (n : Nat) : hostLimitOk n = true ↔ 1 ≤ n ∧ n ≤ 128 := by
  simp [hostLimitOk]

theorem targetLimitOk_iff (n : Nat) : targetLimitOk n = true ↔ n ∈ [1, 4, 16, 64, 128] := by
  simp [targetLimitOk, or_assoc]

/-- Severity 0 names none. -/
theorem Severity.ofCode_zero : Severity.ofCode 0 = none := rfl

theorem State.writePort_hostLimits (h : HPort) (v : Word) : s.writePort (.portRecord (.host h) 1) v =
    if attemptLimitOk (bits v 0 3).toNat && hostLimitOk (bits v 8 8).toNat then
      (s.setHost h fun x =>
        { x with link := { x.link with attemptLimit := (bits v 0 3).toNat }, outstandingLimit := (bits v 8 8).toNat }, .taken)
    else (s, .denied) := rfl

theorem State.writePort_targetAttempts (d : DPort) (v : Word) : s.writePort (.portRecord (.target d) 1) v =
    if attemptLimitOk (bits v 0 3).toNat then
      (s.setTarget d fun x => { x with link := { x.link with attemptLimit := (bits v 0 3).toNat } }, .taken)
    else (s, .denied) := rfl

theorem State.writePort_targetConfig {d : DPort} {v : Word} {t : Severity} (ht : Severity.ofCode (bits v 12 2) = some t) :
    s.writePort (.portRecord (.target d) 2) v = if targetLimitOk (bits v 0 8).toNat then
      (s.setTarget d fun x => { x with
        outstandingLimit := (bits v 0 8).toNat, timeoutCode := (bits v 8 3).toFin, threshold := t,
        isolateOnFailing := v.getLsbD 16 }, .taken)
    else (s, .denied) := by
  change s.writeTargetConfig (.target d) v = _
  unfold State.writeTargetConfig
  dsimp only
  rw [ht]

theorem State.writePort_noSeverity {d : DPort} {v : Word} (ht : Severity.ofCode (bits v 12 2) = none) :
    s.writePort (.portRecord (.target d) 2) v = (s, .denied) := by
  change s.writeTargetConfig (.target d) v = _
  unfold State.writeTargetConfig
  dsimp only
  rw [ht]

theorem State.writePort_readOnly {p : Port} {v : Word} {i : Fin 4} (hi : i = 0 ∨ i = 3) :
    s.writePort (.portRecord p i) v = (s, .denied) := by
  rcases hi with rfl | rfl <;> rfl

/-- Settles O46: each word's ranges, then the end of the access. -/
theorem portConfigWritesAreTakenInRange : Obligations.PortConfigWritesAreTakenInRange := by
  intro s a hx ended denied n m l
  have hexec : ∀ {r}, a.reg = r → exec .portConfigWrite s = endWrite a (s.writePort r a.value) := fun hr => by
    rw [exec_portConfigWrite hx, hr]
  refine ⟨fun h hr => ⟨fun hv => ?_, fun hv => ?_⟩, fun d hr => ⟨fun hv => ?_, fun hv => ?_⟩,
    fun d hr => ⟨fun sev hsev hv => ?_, fun hv => ?_⟩, fun p hr => ?_, fun h hr => (hexec hr).trans (endWrite_denied rfl)⟩
  · obtain ⟨hn0, hn4, hm⟩ := hv
    have hok : (attemptLimitOk n && hostLimitOk m) = true := by
      rw [(attemptLimitOk_iff n).2 ⟨hn0, hn4⟩, (hostLimitOk_iff m).2 hm]; rfl
    obtain ⟨t, hexec', hkept, ht⟩ := exec_taken (hexec hr) ((s.writePort_hostLimits h a.value).trans (if_pos hok))
    refine ⟨t, hexec', (hkept.attemptLimit (.host h)).trans ?_, (hkept.hostLimit h).trans ?_, ht⟩
    · exact congrArg (fun x : HostPort => x.link.attemptLimit) (s.host_setHost h _)
    · exact congrArg (fun x : HostPort => x.outstandingLimit) (s.host_setHost h _)
  · have hno : ¬ (attemptLimitOk n && hostLimitOk m) = true := by
      rw [Bool.and_eq_true, attemptLimitOk_iff, hostLimitOk_iff]
      omega
    exact (hexec hr).trans (endWrite_denied ((s.writePort_hostLimits h a.value).trans (if_neg hno)))
  · have hok : attemptLimitOk n = true := (attemptLimitOk_iff n).2 hv
    obtain ⟨t, hexec', hkept, ht⟩ := exec_taken (hexec hr) ((s.writePort_targetAttempts d a.value).trans (if_pos hok))
    exact ⟨t, hexec', (hkept.attemptLimit (.target d)).trans
      (congrArg (fun x : TargetPort => x.link.attemptLimit) (s.target_setTarget d _)), ht⟩
  · have hno : ¬ attemptLimitOk n = true := by
      rw [attemptLimitOk_iff]
      omega
    exact (hexec hr).trans (endWrite_denied ((s.writePort_targetAttempts d a.value).trans (if_neg hno)))
  · obtain ⟨t, hexec', hkept, ht⟩ := exec_taken (hexec hr)
      ((State.writePort_targetConfig hsev).trans (if_pos ((targetLimitOk_iff l).2 hv)))
    refine ⟨t, hexec', (hkept.targetLimit d).trans ?_, (congrArg Fin.val (hkept.timeoutCode d)).trans ?_,
      (hkept.threshold d).trans ?_, (hkept.isolateOnFailing d).trans ?_, ht⟩
    · exact congrArg (fun x : TargetPort => x.outstandingLimit) (s.target_setTarget d _)
    · exact congrArg (fun x : TargetPort => x.timeoutCode.val) (s.target_setTarget d _)
    · exact congrArg (fun x : TargetPort => x.threshold) (s.target_setTarget d _)
    · exact congrArg (fun x : TargetPort => x.isolateOnFailing) (s.target_setTarget d _)
  · cases hsev : Severity.ofCode (bits a.value 12 2) with
    | none => exact (hexec hr).trans (endWrite_denied (State.writePort_noSeverity hsev))
    | some t =>
      have hno : ¬ targetLimitOk l = true := by
        rw [targetLimitOk_iff]
        refine hv.resolve_left fun h0 => ?_
        rw [h0, Severity.ofCode_zero] at hsev
        cases hsev
      exact (hexec hr).trans (endWrite_denied ((State.writePort_targetConfig hsev).trans (if_neg hno)))
  · rcases hr with hr | hr
    · exact (hexec hr).trans (endWrite_denied (State.writePort_readOnly (.inl rfl)))
    · exact (hexec hr).trans (endWrite_denied (State.writePort_readOnly (.inr rfl)))

/-! ## Reads (R196, R198) -/

theorem State.latchOnRead_live {h : HPort} {r : Reg} (hr : ∀ rec, r.latched ≠ some (rec, 0)) : s.latchOnRead h r = s := by
  unfold State.latchOnRead
  split
  · next rec hrec => exact absurd hrec (hr rec)
  · rfl

theorem State.latchOnRead_first {h : HPort} {r : Reg} {rec : RecordId} (hr : r.latched = some (rec, 0)) :
    s.latchOnRead h r = { s with mgmt := { s.mgmt with
      latches := s.mgmt.latches.set h (some { record := rec, words := s.recordWords rec }) } } := by
  unfold State.latchOnRead
  rw [hr]
  rfl

theorem State.readValue_live {h : HPort} {r : Reg} (hr : ∀ rec i, r.latched ≠ some (rec, i + 1)) :
    s.readValue h r = s.liveWord r := by
  unfold State.readValue
  split
  · next rec i hrec => exact absurd hrec (hr rec i)
  · rfl

/-- A later word comes from the latch that holds its record. -/
theorem State.readValue_latched {h : HPort} {r : Reg} {rec : RecordId} {i : Nat} {ws : List Word}
    (hr : r.latched = some (rec, i + 1)) (hl : s.mgmt.latches[h] = some { record := rec, words := ws }) :
    s.readValue h r = ws.getD (i + 1) 0 := by
  have hwords : s.latchedWords h rec = some ws := by
    unfold State.latchedWords
    rw [hl]
    exact if_pos rfl
  unfold State.readValue
  rw [hr]
  dsimp only
  rw [hwords]

theorem State.readValue_unlatched {h : HPort} {r : Reg} {rec : RecordId} {i : Nat} (hr : r.latched = some (rec, i + 1))
    (hl : ∀ l, s.mgmt.latches[h] = some l → l.record ≠ rec) : s.readValue h r = s.liveWord r := by
  have hwords : s.latchedWords h rec = none := by
    unfold State.latchedWords
    split
    · next l hs => exact if_neg (hl l hs)
    · rfl
  unfold State.readValue
  rw [hr]
  dsimp only
  rw [hwords]

/-- The CPD that answers a read (R196). -/
theorem State.readAnswer_eq {v : Word} (hv : s.readValue a.port a.reg = v) : s.readAnswer a =
    { kindCode := 4, tag := a.packet.tag, length := 8, final := true, payload := leBytes 8 v.toNat } := by
  unfold State.readAnswer cpdPacket
  rw [leBytes_length, hv]
  rfl

theorem Access.malformed_iff (a : Access) : a.malformed = true ↔ a.packet.length ≠ 8 ∨ a.packet.address.toNat % 8 ≠ 0 := by
  have hoffset : a.offset % 8 = a.packet.address.toNat % 8 := Nat.mod_mod_of_dvd _ (by decide)
  unfold Access.malformed
  rw [Bool.or_eq_true, bne_iff_ne, bne_iff_ne, hoffset]
  exact Iff.rfl

theorem Access.step_malformed (hm : a.malformed = true) : a.step = .malformedApertureAccess := if_pos hm

theorem posted_if {α : Type} (p : Packet) (x y : α) :
    (if p.posted then x else y) = if p.kind = some .wpq then x else y := by
  simp only [Packet.posted_iff]

end

/-- Settles O43: the latch and the word it shows, and the answer and report of a malformed access. -/
theorem readsAndMalformedAccessesAreAnswered : Obligations.ReadsAndMalformedAccessesAreAnswered := by
  constructor
  · intro s a hx answer
    rw [exec_latchedRead hx]
    refine ⟨fun hl => ?_, fun r hl => ?_, fun r i ws hl hw => ?_, fun r i hl hw => ?_⟩
    · rw [State.latchOnRead_live (by rw [hl]; exact nofun), State.readAnswer_eq (State.readValue_live (by rw [hl]; exact nofun))]
    · have hlive : s.readValue a.port a.reg = s.liveWord a.reg := State.readValue_live fun rec i h => by
        rw [hl] at h
        cases h
      rw [State.latchOnRead_first hl, State.readAnswer_eq hlive]
    · rw [State.latchOnRead_live fun rec h => (by rw [hl] at h; cases h), State.readAnswer_eq (State.readValue_latched hl hw)]
    · rw [State.latchOnRead_live fun rec h => (by rw [hl] at h; cases h), State.readAnswer_eq (State.readValue_unlatched hl hw)]
  · intro s a hu hm
    rw [exec_malformedApertureAccess ⟨hu, Access.step_malformed ((a.malformed_iff).2 hm)⟩]
    unfold Access.statusAnswer requestReport
    rw [posted_if, posted_if]
    rfl

end Sys2Proof.Machine

/-! PROOFS. The port commands taken within their write (sections 2.3 and 11.5). -/

namespace Sys2Proof.Machine

-- One proof at a time: side by side they take more memory than the check allows.
set_option Elab.async false

section
variable {s : State} {a : Access}

/-! ## How a command ends (R199) -/

theorem endCommand_done {code : Byte} {u : State} (hc : a.commandCode = code) : endCommand a (u, .result .done) =
    .next ((u.setResult code .done).completeAccess a (a.statusAnswer .ok)).settle := by rw [← hc]; rfl

theorem endCommand_denied {code : Byte} {u : State} (hc : a.commandCode = code) : endCommand a (u, .result .denied) =
    .next ((u.setResult code .denied).completeAccess a (a.statusAnswer .denied)).settle := by rw [← hc]; rfl

/-- The steps of a command that acts on the port its argument names, or answers with a reply. -/
theorem exec_portEnable (hx : s.executes a .portEnable) :
    exec .portEnable s = endCommand a (s.portCommand a s.enablePort) :=
  State.onAccess_of_executes hx fun a => endCommand a (s.portCommand a s.enablePort)

theorem exec_portRetrain (hx : s.executes a .portRetrain) :
    exec .portRetrain s = endCommand a (s.portCommand a s.retrainPort) :=
  State.onAccess_of_executes hx fun a => endCommand a (s.portCommand a s.retrainPort)

theorem exec_portRestore (hx : s.executes a .portRestore) : exec .portRestore s =
    if a.portArgument = some (.host a.port) ∧ s.hosts[a.port].link.state = .isolated then
      endOwnCommand s a .done (some (.portRestore a.port))
    else endCommand a (s.portCommand a s.restorePort) :=
  State.onAccess_of_executes hx fun a =>
    if a.portArgument = some (.host a.port) ∧ s.hosts[a.port].link.state = .isolated then
      endOwnCommand s a .done (some (.portRestore a.port))
    else endCommand a (s.portCommand a s.restorePort)

theorem State.portCommand_named {p : Port} (hp : portOfCode a.argument.toNat = some p) (f : Port → State × CommandReply) :
    s.portCommand a f = f p := by
  have h : a.portArgument = some p := hp
  unfold State.portCommand
  rw [h]

theorem State.portCommand_unnamed (hp : portOfCode a.argument.toNat = none) (f : Port → State × CommandReply) :
    s.portCommand a f = (s, .result .denied) := by
  have h : a.portArgument = none := hp
  unfold State.portCommand
  rw [h]

theorem portOfCode_of_le {n : Nat} (h : 10 ≤ n) : portOfCode n = none := by
  unfold portOfCode
  rw [dif_neg (by omega), dif_neg (by omega)]

/-- What the end of an access leaves of a port that is not UP. -/
theorem State.accessEnd_link {p : Port} (hp : (s.link p).state ≠ .up) (q : Option Packet) :
    let t := (s.completeAccess a q).settle
    (t.link p).state = (s.link p).state ∧ (t.link p).attempts = (s.link p).attempts := by
  intro t
  have hstate : ((s.completeAccess a q).link p).state = (s.link p).state :=
    (s.completeAccess_calm (g := True) a q).still.state p
  have hattempts : ((s.completeAccess a q).link p).attempts = (s.link p).attempts :=
    congrFun (congrArg Backdrop.attempts (s.completeAccess_backdrop a q)) p
  exact ⟨((s.completeAccess a q).settle_retreat.state_of_not_up (by rw [hstate]; exact hp)).trans hstate,
    ((s.completeAccess a q).settle_training p).1.trans hattempts⟩

/-! ## PORT_ENABLE and PORT_RETRAIN (R25) -/

/-- A port returned to DOWN with count 0. -/
def State.returned (s : State) (p : Port) : State := (s.setLink p fun u => { u with state := .down, attempts := 0 }).wakeTarget p

/-- What both commands do: from the one state the port returns to DOWN, from every other they are refused. -/
def State.returnFrom (s : State) (l : LinkState) (p : Port) : State × CommandReply :=
  if (s.link p).state = l then (s.returned p, .result .done) else (s, .result .denied)

theorem exec_return {c : Instr} {code : Byte} {l : LinkState}
    (hc : (c = .portEnable ∧ code = 0x10 ∧ l = .disabled) ∨ (c = .portRetrain ∧ code = 0x15 ∧ l = .failed))
    (hx : s.executes a c) : exec c s = endCommand a (s.portCommand a (s.returnFrom l)) ∧ a.commandCode = code := by
  rcases hc with ⟨rfl, rfl, rfl⟩ | ⟨rfl, rfl, rfl⟩
  · exact ⟨exec_portEnable hx, Access.code_portEnable hx.2⟩
  · exact ⟨exec_portRetrain hx, Access.code_portRetrain hx.2⟩

theorem State.returned_link (p : Port) : (s.returned p).link p = { s.link p with state := .down, attempts := 0 } := by
  unfold State.returned
  rw [State.link_wakeTarget, State.link_setLink]

theorem State.returned_fixed (p : Port) : (s.returned p).fixed = s.fixed := by
  unfold State.returned
  have hset := s.setLink_fixed p (fun u => { u with state := .down, attempts := 0 }) fun _ => rfl
  cases p <;> exact hset

/-- A port returned to DOWN stands so at the end of the step. -/
theorem exec_returned {c : Instr} {code : Byte} {p : Port} (hexec : exec c s = endCommand a (s.returned p, .result .done))
    (hcode : a.commandCode = code) : ∃ t, exec c s = .next t ∧ (t.link p).state = .down ∧ (t.link p).attempts = 0 ∧
      SameSettings s t ∧ t = (((s.returned p).setResult code .done).completeAccess a (a.statusAnswer .ok)).settle := by
  have hlink : ((s.returned p).setResult code .done).link p = { s.link p with state := .down, attempts := 0 } :=
    (by cases p <;> rfl : ((s.returned p).setResult code .done).link p = (s.returned p).link p).trans (s.returned_link p)
  have hfixed : ((s.returned p).setResult code .done).fixed = s.fixed := s.returned_fixed p
  obtain ⟨hstate, hattempts⟩ := State.accessEnd_link (a := a) (s := (s.returned p).setResult code .done) (p := p)
    (by rw [hlink]; exact nofun) (a.statusAnswer .ok)
  rw [hlink] at hstate hattempts
  exact ⟨_, hexec.trans (endCommand_done hcode), hstate, hattempts,
    State.sameSettings_of_fixed ((State.settle_fixed _).trans ((State.completeAccess_fixed _ _ _).trans hfixed)), rfl⟩

/-! ## PORT_RESTORE (R28) -/

theorem State.restore_host (h : HPort) : s.restore (.host h) =
    ((s.setHost h fun x => { x with link := { x.link with state := .up }, isolatedWaits := false }).setHead h
      (if s.hosts[h].link.ingress = [] then .noHead else .presented)).sendNotification := by
  have hset : ((s.setHost h fun x => { x with link := { x.link with state := .up } }).setHost h fun x =>
      { x with isolatedWaits := false }) =
      s.setHost h fun x => { x with link := { x.link with state := .up }, isolatedWaits := false } := s.setHost_setHost h _ _
  unfold State.restore
  dsimp only [State.setLink]
  rw [hset, State.host_setHost]
  simp only [List.isEmpty_iff]

theorem State.restorePort_isolated {p : Port} (hp : (s.link p).state = .isolated) :
    s.restorePort p = (s.restore p, .result .done) := if_pos hp

theorem State.restorePort_refused {p : Port} (hp : (s.link p).state ≠ .isolated) :
    s.restorePort p = (s, .result .denied) := if_neg hp

end

/-- Settles O47: what each command does at the port it names, then the end of the access. -/
theorem enableRetrainAndRestoreReturnAPort : Obligations.EnableRetrainAndRestoreReturnAPort := by
  constructor
  · intro s a c code l hc hx ended
    obtain ⟨hexec, hcode⟩ := exec_return hc hx
    refine ⟨fun p hp hl => ?_, fun p hp hl => ?_, fun hn => ?_⟩
    · refine exec_returned (hexec.trans ?_) hcode
      rw [State.portCommand_named hp]
      exact congrArg _ (if_pos hl)
    · rw [hexec, State.portCommand_named hp]
      exact (congrArg _ (if_neg hl)).trans (endCommand_denied hcode)
    · rw [hexec, State.portCommand_unnamed (portOfCode_of_le hn)]
      exact endCommand_denied hcode
  · intro s a hx ended
    have hcode := Access.code_portRestore hx.2
    have hother : ¬ (a.portArgument = some (.host a.port) ∧ s.hosts[a.port].link.state = .isolated) →
        exec .portRestore s = endCommand a (s.portCommand a s.restorePort) := fun hn => (exec_portRestore hx).trans (if_neg hn)
    refine ⟨fun d hp hl => ?_, fun h hp hne hl => ?_, fun p hp hl => ?_, fun hn => ?_⟩
    · have hnot : ¬ (a.portArgument = some (.host a.port) ∧ s.hosts[a.port].link.state = .isolated) := fun ⟨h, _⟩ => by
        cases hp.symm.trans h
      rw [hother hnot, State.portCommand_named hp, State.restorePort_isolated (p := .target d) hl]
      exact endCommand_done hcode
    · have hnot : ¬ (a.portArgument = some (.host a.port) ∧ s.hosts[a.port].link.state = .isolated) := fun ⟨h', _⟩ =>
        hne (by cases hp.symm.trans h'; rfl)
      rw [hother hnot, State.portCommand_named hp, State.restorePort_isolated (p := .host h) hl, State.restore_host]
      exact endCommand_done hcode
    · have hnot : ¬ (a.portArgument = some (.host a.port) ∧ s.hosts[a.port].link.state = .isolated) := fun ⟨h', hi⟩ => by
        cases hp.symm.trans h'
        exact hl hi
      rw [hother hnot, State.portCommand_named hp, State.restorePort_refused hl]
      exact endCommand_denied hcode
    · have hnot : ¬ (a.portArgument = some (.host a.port) ∧ s.hosts[a.port].link.state = .isolated) := fun ⟨h', _⟩ => by
        cases (portOfCode_of_le hn).symm.trans h'
      rw [hother hnot, State.portCommand_unnamed (portOfCode_of_le hn)]
      exact endCommand_denied hcode

/-! ## PORT_RESET, PORT_DISABLE and PORT_ISOLATE on another port (R26 to R28) -/

section
variable {s : State} {a : Access}

/-- What a port command judged against port `p` does (R24, R200). -/
theorem exec_portReset (hx : s.executes a .portReset) {p : Port} (hp : portOfCode a.argument.toNat = some p) :
    exec .portReset s = endPortCommand s a p (s.mayReset p) (s.resetPort p) .portReset := by
  have harg : a.portArgument = some p := hp
  change execPortReset s = _
  unfold execPortReset
  rw [State.accessFor_of_executes hx]
  dsimp only
  rw [harg]

theorem exec_portDisable (hx : s.executes a .portDisable) {p : Port} (hp : portOfCode a.argument.toNat = some p) :
    exec .portDisable s = endPortCommand s a p (!s.withholds p) (s.takeDown p .disabled) .portDisable := by
  have harg : a.portArgument = some p := hp
  change execPortDisable s = _
  unfold execPortDisable
  rw [State.accessFor_of_executes hx]
  dsimp only
  rw [harg]

theorem exec_portIsolate (hx : s.executes a .portIsolate) {p : Port} (hp : portOfCode a.argument.toNat = some p) :
    exec .portIsolate s = endPortCommand s a p (s.mayIsolate p) (s.isolatePort p) .portIsolate := by
  have harg : a.portArgument = some p := hp
  change execPortIsolate s = _
  unfold execPortIsolate
  rw [State.accessFor_of_executes hx]
  dsimp only
  rw [harg]

theorem endPortCommand_other {p : Port} (hne : p ≠ .host a.port) (ok : Bool) (u : State) (x : HPort → SelfAction) :
    endPortCommand s a p ok u x = if ok then endCommand a (u, .result .done) else endCommand a (s, .result .denied) :=
  if_neg hne

theorem State.mayReset_iff (p : Port) : s.mayReset p = true ↔ (s.link p).state ≠ .disabled := by
  simp [State.mayReset]

/-- PORT_ISOLATE is taken in ISOLATED, and in UP where no isolation is withheld (R24, R37). -/
theorem State.mayIsolate_iff (p : Port) : s.mayIsolate p = true ↔
    (s.link p).state = .isolated ∨ (s.link p).state = .up ∧ s.withholds p = false := by
  unfold State.mayIsolate State.judgeIsolation
  rw [Bool.or_eq_true, beq_iff_eq, beq_iff_eq]
  by_cases hup : (s.link p).state = .up
  · rw [if_neg (not_not.2 hup)]
    cases s.withholds p <;> simp [hup]
  · rw [if_pos hup]
    simp [hup]

theorem State.closed_of_takeDown (p : Port) (l : LinkState) :
    ((s.takeDown p l).link p).state = l ∧ ((s.takeDown p l).link p).attempts = 0 ∧ ((s.takeDown p l).link p).tTrn = none ∧
      ((s.takeDown p l).link p).ingress = [] ∧ ((s.takeDown p l).link p).egress = [] := by
  rw [State.takeDown_link]
  exact ⟨rfl, rfl, rfl, rfl, rfl⟩

theorem State.resetPort_link (p : Port) : (s.resetPort p).link p = (s.takeDown p .down).link p := by
  cases p with
  | host h => exact (congrArg HostPort.link
      ((s.takeDown (.host h) .down).host_setHost h fun x => { x with classPtr := .localAnswer })).trans rfl
  | target d => rfl

theorem State.resetPort_fixed (p : Port) : (s.resetPort p).fixed = s.fixed := by
  cases p with
  | host h =>
    exact ((s.takeDown (.host h) .down).setHost_fixed h (fun x => { x with classPtr := .localAnswer }) fun _ => ⟨rfl, rfl⟩).trans
      (s.takeDown_fixed _ _)
  | target d => exact s.takeDown_fixed _ _

/-- A port that leaves UP stands in its new state with empty queues. -/
theorem State.leavesUp_emptied (p : Port) {l : LinkState} (hl : l ≠ .up) :
    ((s.leavesUp p l).link p).state = l ∧ ((s.leavesUp p l).link p).ingress = [] ∧ ((s.leavesUp p l).link p).egress = [] := by
  cases p with
  | host h =>
    obtain ⟨hstate, hin, hout, -⟩ := hostLeavesUp_effects h l (s := s) rfl
    exact ⟨hstate, hin, hout⟩
  | target d =>
    have hlink : (s.leavesUp (.target d) l).link (.target d) = _ := (s.targetLeavesUp_effects d l hl rfl).1
    rw [hlink]
    exact ⟨rfl, rfl, rfl⟩

end

/-- Settles O48: each command's judgement, and what a port taken down or isolated looks like. -/
theorem portCommandsOnAnotherPort : Obligations.PortCommandsOnAnotherPort := by
  intro s a p hp hne ended closed
  refine ⟨fun hx => ?_, fun hx => ?_, fun hx => ?_⟩
  · have hcode := Access.code_portReset hx.2
    rw [exec_portReset hx hp, endPortCommand_other hne]
    refine ⟨fun hl => ⟨_, rfl, ?_, State.sameSettings_of_fixed (State.resetPort_fixed p), ?_⟩, fun hl => ?_⟩
    · change (_ ∧ _)
      rw [State.resetPort_link]
      exact State.closed_of_takeDown p .down
    · exact (if_pos (State.mayReset_iff p |>.2 hl)).trans (endCommand_done hcode)
    · exact (if_neg fun h => (State.mayReset_iff p).1 h hl).trans (endCommand_denied hcode)
  · have hcode := Access.code_portDisable hx.2
    rw [exec_portDisable hx hp, endPortCommand_other hne]
    refine ⟨fun hw => ⟨_, rfl, State.closed_of_takeDown p .disabled, State.sameSettings_of_fixed (s.takeDown_fixed p _), ?_⟩,
      fun hw => ?_⟩
    · rw [hw]
      exact endCommand_done hcode
    · rw [hw]
      exact endCommand_denied hcode
  · have hcode := Access.code_portIsolate hx.2
    rw [exec_portIsolate hx hp, endPortCommand_other hne]
    refine ⟨fun hup hw => ?_, fun hi => ?_, fun hr => ?_⟩
    · obtain ⟨hstate, hin, hout⟩ := State.leavesUp_emptied (s := s) p (l := .isolated) (by decide)
      have hisolate : s.isolatePort p = s.leavesUp p .isolated := if_pos hup
      refine ⟨_, rfl, hstate, hin, hout, State.sameSettings_of_fixed (s.leavesUp_fixed p _), ?_⟩
      rw [if_pos ((State.mayIsolate_iff p).2 (.inr ⟨hup, hw⟩)), hisolate]
      exact endCommand_done hcode
    · have hisolate : s.isolatePort p = s := if_neg (by rw [hi]; exact nofun)
      rw [if_pos ((State.mayIsolate_iff p).2 (.inl hi)), hisolate]
      exact endCommand_done hcode
    · have hno : ¬ s.mayIsolate p = true := fun h => by
        rcases (State.mayIsolate_iff p).1 h with hi | ⟨hup, hw⟩
        · rcases hr with ⟨hup, -⟩ | ⟨-, hni⟩
          · rw [hup] at hi
            cases hi
          · exact hni hi
        · rcases hr with ⟨-, hw'⟩ | ⟨hnu, -⟩
          · rw [hw] at hw'
            cases hw'
          · exact hnu hup
      rw [if_neg hno]
      exact endCommand_denied hcode

end Sys2Proof.Machine

/-! PROOFS. The commands that are ordered with their own answer (section 11.5): their answers and their actions. -/

namespace Sys2Proof.Machine

-- One proof at a time: side by side they take more memory than the check allows.
set_option Elab.async false

section
variable {s : State} {a : Access}

/-! ## The access of a command of R200 completes -/

theorem State.completeSelf_of_ne {x : Option SelfAction} (hx : x ≠ some .warmReset) : s.completeSelf a x =
    State.freeUnit { s with mgmt := { s.mgmt with action := x } } a.port := by
  unfold State.completeSelf
  dsimp only
  rw [if_neg hx]

theorem State.completeSelf_warmReset : s.completeSelf a (some .warmReset) = State.freeUnit { s with mgmt := { s.mgmt with
    action := some .warmReset, result := { code := 0x3F, outcome := .done } } } a.port := rfl

theorem CommandReply.status_code (o : CommandOutcome) :
    (CommandReply.result o).status.code = if o = .denied then 2 else 0 := by
  cases o <;> rfl

theorem cpsPacket_reply (a : Access) (o : CommandOutcome) : cpsPacket a.packet.tag (CommandReply.result o).status =
    { kindCode := 5, tag := a.packet.tag, status := if o = .denied then 2 else 0, final := true } := by
  rw [← CommandReply.status_code]
  rfl

/-- A command on the requester's own port, whose answer waits or enters first (R200). -/
theorem endOwnCommand_answered {o : CommandOutcome} {x : Option SelfAction} (hk : a.packet.kind ≠ some .wpq)
    (hc : s.hosts[a.port].link.state.carries = true) : endOwnCommand s a o x =
      let u := (s.setResult a.commandCode o).awaiting a (CommandReply.result o).status x
      if s.givesRoom a.port .management then
        .next ((((u.placeHost a.port .management (cpsPacket a.packet.tag (CommandReply.result o).status)).clearAnswer
          a.port).wake).completeSelf a x).settle
      else .next u.settle := by
  have hbegin := State.beginSelf_answered (s := s.setResult a.commandCode o) (st := (CommandReply.result o).status) (x := x)
    hk hc
  unfold endOwnCommand settled
  rw [hbegin]
  exact apply_ite (fun u : State => (.next u.settle : Result)) _ _ _

/-- What a command naming the requester's own port is judged to be: its code, its result and its action (R24, R200). -/
def State.JudgedOwn (s : State) (a : Access) (c : Instr) (code : Byte) (o : CommandOutcome) (x : Option SelfAction) : Prop :=
  let up : Prop := s.hosts[a.port].link.state = .up
  let isolated : Prop := s.hosts[a.port].link.state = .isolated
  let withheld : Prop := s.withholds (.host a.port) = true
  (c = .portReset ∧ code = 0x12 ∧
      (if s.hosts[a.port].link.state = .disabled then o = .denied ∧ x = none
        else o = .done ∧ x = some (.portReset a.port))) ∨
    (c = .portDisable ∧ code = 0x11 ∧
      (if withheld then o = .denied ∧ x = none else o = .done ∧ x = some (.portDisable a.port))) ∨
    (c = .portIsolate ∧ code = 0x13 ∧
      (if isolated ∨ (up ∧ ¬ withheld) then o = .done ∧ x = some (.portIsolate a.port)
        else o = .denied ∧ x = none)) ∨
    (c = .portRestore ∧ code = 0x14 ∧ isolated ∧ o = .done ∧ x = some (.portRestore a.port))

/-- A judged command on the own port: taken with its action, or refused with none. -/
theorem endPortCommand_own {ok : Bool} {u : State} {act : HPort → SelfAction} {o : CommandOutcome} {x : Option SelfAction}
    (h : if ok then o = .done ∧ x = some (act a.port) else o = .denied ∧ x = none) :
    endPortCommand s a (.host a.port) ok u act = endOwnCommand s a o x := by
  refine (if_pos rfl).trans ?_
  cases ok with
  | true =>
    obtain ⟨rfl, rfl⟩ := h
    rfl
  | false =>
    obtain ⟨rfl, rfl⟩ := h
    rfl

/-- What is judged on the own port: an outcome where the condition holds, the other where it does not. -/
theorem judged_congr {P Q R : Prop} {b : Bool} [Decidable P] (hb : b = true ↔ P) (h : if P then Q else R) : if b then Q else R := by
  by_cases hp : P
  · rw [if_pos hp] at h
    rwa [if_pos (hb.2 hp)]
  · rw [if_neg hp] at h
    rwa [if_neg fun e => hp (hb.1 e)]

theorem judged_congr_not {P Q R : Prop} {b : Bool} [Decidable P] (hb : b = true ↔ ¬ P) (h : if P then R else Q) :
    if b then Q else R := by
  by_cases hp : P
  · rw [if_pos hp] at h
    rwa [if_neg fun e => hb.1 e hp]
  · rw [if_neg hp] at h
    rwa [if_pos (hb.2 hp)]

theorem State.JudgedOwn.exec {c : Instr} {code : Byte} {o : CommandOutcome} {x : Option SelfAction}
    (hj : s.JudgedOwn a c code o x) (hx : s.executes a c) (hp : portOfCode a.argument.toNat = some (.host a.port)) :
    Machine.exec c s = endOwnCommand s a o x ∧ a.commandCode = code ∧ x ≠ some .warmReset := by
  have hact : ∀ {b : Bool} (act : HPort → SelfAction), (∀ h, act h ≠ .warmReset) →
      (if b then o = .done ∧ x = some (act a.port) else o = .denied ∧ x = none) → x ≠ some .warmReset := by
    intro b act ha h
    cases b with
    | true =>
      obtain ⟨-, rfl⟩ := h
      exact fun e => ha _ (Option.some.inj e)
    | false =>
      obtain ⟨-, rfl⟩ := h
      exact nofun
  rcases hj with ⟨rfl, rfl, h⟩ | ⟨rfl, rfl, h⟩ | ⟨rfl, rfl, h⟩ | ⟨rfl, rfl, hi, rfl, rfl⟩
  · have hown := judged_congr_not (State.mayReset_iff (s := s) (.host a.port)) h
    exact ⟨(exec_portReset hx hp).trans (endPortCommand_own hown), Access.code_portReset hx.2, hact .portReset (fun _ => nofun) hown⟩
  · have hown := judged_congr_not (b := !s.withholds (.host a.port)) (by rw [Bool.not_eq_true', Bool.not_eq_true]) h
    exact ⟨(exec_portDisable hx hp).trans (endPortCommand_own hown), Access.code_portDisable hx.2, hact .portDisable (fun _ => nofun) hown⟩
  · have hown := judged_congr (b := s.mayIsolate (.host a.port))
      ((State.mayIsolate_iff (.host a.port)).trans (by rw [← Bool.not_eq_true]; exact Iff.rfl)) h
    exact ⟨(exec_portIsolate hx hp).trans (endPortCommand_own hown), Access.code_portIsolate hx.2, hact .portIsolate (fun _ => nofun) hown⟩
  · exact ⟨(exec_portRestore hx).trans (if_pos ⟨hp, hi⟩), Access.code_portRestore hx.2, nofun⟩

end

/-- Settles O49, first part: the command is judged, its answer enters, waits or is not due, and its action follows. -/
theorem own_command_waits_for_its_answer (s : State) (a : Access) (c : Instr) (code : Byte) (o : CommandOutcome)
    (x : Option SelfAction) (hx : s.executes a c) (hp : portOfCode a.argument.toNat = some (.host a.port))
    (hj : s.JudgedOwn a c code o x) :
    let up : Prop := s.hosts[a.port].link.state = .up
    let isolated : Prop := s.hosts[a.port].link.state = .isolated
    let answer : Packet := { kindCode := 5, tag := a.packet.tag, status := if o = .denied then 2 else 0, final := true }
    let judged : State := { s with mgmt := { s.mgmt with result := { code := code, outcome := o } } }
    let held : State := { judged with mgmt := { judged.mgmt with
      unit := .answering a x, answers := s.mgmt.answers.set a.port (some answer) } }
    let completed (u : State) : State := ({ u with mgmt := { u.mgmt with action := x } }).freeUnit a.port
    (a.packet.kind = some .wpq ∨ ¬ (up ∨ isolated) → exec c s = .next (completed judged).settle) ∧
    (a.packet.kind ≠ some .wpq → up ∨ isolated → s.givesRoom a.port .management = true → exec c s =
      .next (completed (((held.placeHost a.port .management answer).clearAnswer a.port).wake)).settle) ∧
    (a.packet.kind ≠ some .wpq → up ∨ isolated → s.givesRoom a.port .management = false → exec c s =
      .next held.settle) := by
  intro up isolated answer judged held completed
  obtain ⟨hexec, hcode, hne⟩ := hj.exec hx hp
  have hheld : (s.setResult a.commandCode o).awaiting a (CommandReply.result o).status x = held := by
    unfold State.awaiting
    rw [cpsPacket_reply, hcode]
    rfl
  have hcarries := LinkState.carries_iff s.hosts[a.port].link.state
  refine ⟨fun hk => ?_, fun hk hc hr => ?_, fun hk hc hr => ?_⟩
  · rw [hexec, endOwnCommand_at_once (hk.imp_right (mt hcarries.1)), State.completeSelf_of_ne hne, hcode]
    rfl
  · rw [hexec, endOwnCommand_answered hk (hcarries.2 hc), hheld, cpsPacket_reply]
    exact (if_pos hr).trans (by rw [State.completeSelf_of_ne hne])
  · rw [hexec, endOwnCommand_answered hk (hcarries.2 hc), hheld]
    exact if_neg (by rw [hr]; exact nofun)

/-! ## BRIDGE_RESET and the waiting answers (R117, R201) -/

section
variable {s : State} {a : Access} {h : HPort} {p : Packet}

theorem exec_bridgeReset (hx : s.executes a .bridgeReset) :
    exec .bridgeReset s = .next (s.beginSelf a .ok (some .warmReset)).settle :=
  State.onAccess_of_executes hx fun a => settled (s.beginSelf a .ok (some .warmReset))

theorem exec_mgmtAnswerEnters (h : HPort) (s : State) : exec (.mgmtAnswerEnters h) s = .next (s.enterAnswer h).settle := rfl

theorem State.enterAnswer_of_room (hp : s.mgmt.answers[h] = some p) (hr : s.givesRoom h .management = true) :
    s.enterAnswer h = (((s.placeHost h .management p).clearAnswer h).wake).answerGone h := by
  unfold State.enterAnswer
  rw [hp]
  exact if_pos hr

theorem State.answerGone_answering {x : Option SelfAction} (hu : s.mgmt.unit = .answering a x) :
    s.answerGone a.port = s.completeSelf a x := by
  unfold State.answerGone
  rw [hu]
  exact if_pos rfl

theorem State.answerGone_other (hu : ∀ a x, s.mgmt.unit ≠ .answering a x) : s.answerGone h = s := by
  unfold State.answerGone
  split
  · next a x hs => exact absurd hs (hu a x)
  · rfl

end

/-- Settles O50, from the answer's entering and the completion it brings. -/
theorem answersEnterBeforeTheirActions : Obligations.AnswersEnterBeforeTheirActions := by
  constructor
  · intro s a done
    refine ⟨fun hx => ⟨fun hk => ?_, fun hk hup => ?_⟩, fun p hu hp hr => ?_, fun p x hu hx hp hr => ?_⟩
    · rw [exec_bridgeReset hx, State.beginSelf_at_once (.inl hk), State.completeSelf_warmReset]
    · intro ok held
      rw [exec_bridgeReset hx, State.beginSelf_answered hk ((LinkState.carries_iff _).2 (.inl hup))]
      refine ⟨fun hr => ?_, fun hr => ?_⟩
      · rw [if_pos hr, State.completeSelf_warmReset]
        rfl
      · rw [if_neg (by rw [hr]; exact nofun)]
        rfl
    · rw [exec_mgmtAnswerEnters, State.enterAnswer_of_room hp hr,
        State.answerGone_answering (x := some .warmReset) (by exact hu), State.completeSelf_warmReset]
    · rw [exec_mgmtAnswerEnters, State.enterAnswer_of_room hp hr, State.answerGone_answering (x := x) (by exact hu),
        State.completeSelf_of_ne hx]
      rfl
  · intro h s p hp hr hu
    rw [exec_mgmtAnswerEnters, State.enterAnswer_of_room hp hr, State.answerGone_other (by exact hu)]
    rfl

end Sys2Proof.Machine

/-! PROOFS. The action of a command on the requester's own port (section 11.5): a host port that carries nothing stands
apart from the passes that end the step. -/

namespace Sys2Proof.Machine

-- One proof at a time: side by side they take more memory than the check allows.
set_option Elab.async false

section
variable {s t u : State} {h : HPort}

/-! ## A host port apart -/

/-- An idle host port keeps its record and its round-robin pointer. -/
def Apart (h : HPort) (s t : State) : Prop := (s.link (.host h)).Idle →
  t.hosts[h] = s.hosts[h] ∧ t.tracker.pointers[h] = s.tracker.pointers[h]

theorem Apart.refl (s : State) : Apart h s s := fun _ => ⟨rfl, rfl⟩

theorem Apart.of_same (hh : t.hosts = s.hosts) (hp : t.tracker.pointers = s.tracker.pointers) : Apart h s t := fun _ => by
  rw [hh, hp]
  exact ⟨rfl, rfl⟩

theorem Apart.trans (k : Apart h s t) (l : Apart h t u) : Apart h s u := fun hi => by
  obtain ⟨hhost, hpointer⟩ := k hi
  have hlink : t.link (.host h) = s.link (.host h) := congrArg HostPort.link hhost
  obtain ⟨hhost', hpointer'⟩ := l (by rw [hlink]; exact hi)
  exact ⟨hhost'.trans hhost, hpointer'.trans hpointer⟩

theorem PortUnit.Idle.not_up {p : PortUnit} (hi : p.Idle) : p.state ≠ .up := fun hu => by
  have hc := hi.1
  rw [hu] at hc
  cases hc

theorem State.setHost_apart {g : HPort} (hg : g ≠ h) (f : HostPort → HostPort) : Apart h s (s.setHost g f) := fun _ =>
  ⟨s.setHost_other g h f fun e => hg e.symm, rfl⟩

theorem State.setLink_apart {p : Port} (hp : p ≠ .host h) (f : PortUnit → PortUnit) : Apart h s (s.setLink p f) := by
  cases p with
  | host g => exact State.setHost_apart (fun e => hp (congrArg Port.host e)) _
  | target d => exact .of_same rfl rfl

theorem State.sendNotification_apart (s : State) : Apart h s s.sendNotification := by
  intro hi
  unfold State.sendNotification
  split
  · next hs =>
    have hup : s.hostUp s.mgmt.supervisor = true := by
      simp only [State.sendWaits, Bool.and_eq_true] at hs
      exact hs.1.2
    have hne : s.mgmt.supervisor ≠ h := fun e => hi.not_up (by rw [e] at hup; exact of_decide_eq_true hup)
    split
    · exact ⟨rfl, rfl⟩
    · exact Apart.trans (t := s.placeHost s.mgmt.supervisor .notification _) (State.setHost_apart hne _) (.of_same rfl rfl) hi
  · exact ⟨rfl, rfl⟩

theorem State.appendItem_apart (s : State) (i : PendingItem) : Apart h s (s.appendItem i) :=
  Apart.trans (t := { s with notifier := { s.notifier with items := s.notifier.items ++ [i] } }) (.of_same rfl rfl)
    (State.sendNotification_apart _)

theorem State.notice_apart (s : State) (k : FaultKind) (p : Port) (q : Seq) : Apart h s (s.notice k p q) := by
  unfold State.notice
  split
  · exact s.appendItem_apart _
  · exact .of_same rfl rfl

theorem State.snapAndNotice_apart (s : State) (f : FaultRecord) (c : Option HeaderCapture) : Apart h s (s.snapAndNotice f c) :=
  Apart.trans (t := { s with recorder := s.recorder.snap f c }) (.of_same rfl rfl) (State.notice_apart _ _ _ _)

theorem State.isolatedBy_apart (s : State) (r : Report) : Apart h s (s.isolatedBy r) := by
  intro hi
  unfold State.isolatedBy
  split
  · next ho =>
    have hup : (s.link r.port).state = .up := Decidable.byContradiction fun hn => State.reportOutcome_of_not_up hn ho
    exact State.setLink_apart (s := s) (p := r.port) (fun e => hi.not_up (e ▸ hup)) _ hi
  · exact ⟨rfl, rfl⟩

theorem State.takeReport_apart (s : State) (r : Report) : Apart h s (s.takeReport r) := by
  refine (s.isolatedBy_apart r).trans ?_
  change Apart h (s.isolatedBy r) (match s.classOf r.kind with
    | .ignore => s.isolatedBy r
    | .record => (s.isolatedBy r).queueRecord (s.formRecord r (s.reportOutcome r))
    | .notify => ((s.isolatedBy r).queueRecord (s.formRecord r (s.reportOutcome r))).snapAndNotice
        (s.formRecord r (s.reportOutcome r)) r.capture
    | .isolate => ((s.isolatedBy r).queueRecord (s.formRecord r (s.reportOutcome r))).snapAndNotice
        (s.formRecord r (s.reportOutcome r)) r.capture)
  have hqueue : ∀ f, Apart h (s.isolatedBy r) ((s.isolatedBy r).queueRecord f) := fun _ => .of_same rfl rfl
  cases s.classOf r.kind with
  | ignore => exact .refl _
  | record => exact hqueue _
  | notify => exact (hqueue _).trans (State.snapAndNotice_apart _ _ _)
  | isolate => exact (hqueue _).trans (State.snapAndNotice_apart _ _ _)

theorem State.hostLeavesUp_apart (s : State) {g : HPort} (hg : g ≠ h) (l : LinkState) : Apart h s (s.hostLeavesUp g l) := by
  intro _
  obtain ⟨-, -, -, -, -, -, -, -, -, -, hothers, -⟩ := hostLeavesUp_effects g l (s := s) rfl
  refine ⟨(hothers h fun e => hg e.symm).1, ?_⟩
  obtain ⟨-, -, htracker, -⟩ := (s.hostLeavesUp_onlyUnit g l).kept
  rw [htracker, State.hostLeft_eq]

/-- A pass reports about a host port or a target port that is not UP. -/
theorem State.report_one_apart (s : State) (r : Report) (hr : s.notUpTarget r.port) : Apart h s (s.report [r]) := by
  have hreport : s.report [r] =
      if s.reportOutcome r = .carriedOut then (s.takeReport r).leavesUp r.port .isolated else s.takeReport r := rfl
  by_cases ho : s.reportOutcome r = .carriedOut
  · intro hi
    rw [hreport, if_pos ho]
    have hup : (s.link r.port).state = .up := Decidable.byContradiction fun hn => State.reportOutcome_of_not_up hn ho
    cases hp : r.port with
    | host g =>
      have hg : g ≠ h := fun e => hi.not_up (by rw [hp, e] at hup; exact hup)
      exact (s.takeReport_apart r).trans (State.hostLeavesUp_apart _ hg _) hi
    | target d =>
      rw [hp] at hr hup
      exact absurd ((s.targetUp_iff d).2 hup) (by rw [show s.targetUp d = false from hr]; decide)
  · rw [hreport, if_neg ho]
    exact s.takeReport_apart r

theorem State.reportMaybe_apart (s : State) (f : Option Report) (hf : ∀ r, f = some r → s.notUpTarget r.port) :
    Apart h s (s.reportMaybe f) := by
  cases f with
  | none => exact .refl s
  | some r => exact s.report_one_apart r (hf r rfl)

/-! ## The passes -/

theorem State.removeHead_apart (s : State) {g : HPort} (hg : g ≠ h) : Apart h s (s.removeHead g) :=
  Apart.trans (t := s.popIngress (.host g)) (State.setLink_apart (fun e => hg (by cases e; rfl)) _) (.of_same rfl rfl)

theorem State.admitting_apart (s : State) {g : HPort} (hg : g ≠ h) (p : Packet) (x : Admitted) : Apart h s (s.admitting g p x) := by
  unfold State.admitting
  have hlast : ∀ v : State, Apart h v { v.removeHead g with admission := { (v.removeHead g).admission with pointer := g + 1 } } :=
    fun v => (v.removeHead_apart hg).trans (.of_same rfl rfl)
  refine Apart.trans ?_ (hlast _)
  split
  · exact .of_same rfl rfl
  · exact .of_same rfl rfl
  · exact .refl s

theorem State.applyDecision_apart (s : State) {g : HPort} (hg : g ≠ h) (b : Bool) (p : Packet) :
    Apart h s (s.applyDecision g b p (s.decideHead g p)) := by
  have hfault := fun r => s.decideHead_fault g p r
  generalize s.decideHead g p = d at hfault ⊢
  cases d with
  | answer a f =>
    change Apart h s (s.answerLocally g b a f)
    unfold State.answerLocally
    split
    · have hkept : ((s.placeHost g .localAnswer a).removeHead g).backdrop = s.backdrop := by simp
      exact ((State.setHost_apart hg _).trans (State.removeHead_apart (s.placeHost g .localAnswer a) hg)).trans
        (State.reportMaybe_apart _ f fun r hr => (State.notUpTarget_of_backdrop hkept _).2 (hfault r hr))
    · exact .of_same rfl rfl
  | drop f =>
    have hkept : (s.removeHead g).backdrop = s.backdrop := by simp
    exact (s.removeHead_apart hg).trans
      (State.reportMaybe_apart _ f fun r hr => (State.notUpTarget_of_backdrop hkept _).2 (hfault r hr))
  | divert => exact .of_same rfl rfl
  | wait r => exact .of_same rfl rfl
  | admitting x => exact s.admitting_apart hg p x

theorem State.visit_apart (s : State) (g : HPort) : Apart h s (s.visit g) := by
  intro hi
  unfold State.visit
  split
  · unfold State.evaluate
    split
    · exact ⟨rfl, rfl⟩
    · next p rest hin =>
      have hg : g ≠ h := fun e => by
        have hempty := hi.2.1
        rw [e] at hin
        rw [State.link, hin] at hempty
        cases hempty
      exact s.applyDecision_apart hg _ _ hi
  · exact ⟨rfl, rfl⟩

theorem State.visits_apart (l : List HPort) (s : State) : Apart h s (l.foldl State.visit s) := by
  induction l generalizing s with
  | nil => exact .refl s
  | cons g l ih => exact (s.visit_apart g).trans (ih _)

theorem State.acceptOne_apart (s : State) (l : List HPort) : Apart h s (s.acceptOne l) := by
  intro hi
  unfold State.acceptOne
  split
  · split
    · exact ⟨rfl, rfl⟩
    · next g _ =>
      unfold State.accept
      split
      · exact ⟨rfl, rfl⟩
      · next p rest hin =>
        have hg : g ≠ h := fun e => by
          have hempty := hi.2.1
          rw [e] at hin
          rw [State.link, hin] at hempty
          cases hempty
        exact Apart.trans (t := s.popIngress (.host g)) (State.setLink_apart (fun e => hg (by cases e; rfl)) _)
          (.of_same rfl rfl) hi
  · exact ⟨rfl, rfl⟩

theorem State.settleIn_apart (n : Nat) (s : State) : Apart h s (State.settleIn n s) := by
  induction n generalizing s with
  | zero => exact .of_same rfl rfl
  | succ n ih =>
    unfold State.settleIn
    split
    · exact (Apart.trans (t := s.clearWake) (.of_same rfl rfl)
        ((State.visits_apart _ _).trans (State.acceptOne_apart _ _))).trans (ih _)
    · exact .refl s

theorem State.settle_apart (s : State) : Apart h s s.settle := s.settleIn_apart 5

end

/-! ## The action (R200) -/

section
variable {s : State} {h : HPort}

theorem exec_selfPortCommandAction {x : SelfAction} (ha : s.mgmt.action = some x) (hx : x ≠ .warmReset) :
    exec .selfPortCommandAction s = .next ((s.clearAction.act x).wake).settle := by
  change execSelfPortCommandAction s = _
  unfold execSelfPortCommandAction
  rw [ha]
  cases x with
  | warmReset => exact absurd rfl hx
  | portReset | portDisable | portIsolate | portRestore => rfl

/-- The action of PORT_RESET leaves the host port's pointers at their reset values (R26). -/
theorem State.resetPort_host (s : State) (h : HPort) :
    (s.resetPort (.host h)).hosts[h].classPtr = .localAnswer ∧ (s.resetPort (.host h)).tracker.pointers[h] = 0 :=
  ⟨(congrArg HostPort.classPtr
    ((s.takeDown (.host h) .down).host_setHost h fun x => { x with classPtr := .localAnswer })).trans rfl,
    Vector.getElem_set_fin_self _ _ _⟩

theorem State.link_wake (s : State) (p : Port) : s.wake.link p = s.link p := by
  cases p <;> rfl

/-- A port that an action has closed stands closed at the end of the step. -/
theorem State.settle_closed {u : State} {l : LinkState} (hl : l.carries = false)
    (hc : ∃ v : PortUnit, u.link (.host h) = v.closed l) : (u.settle.hosts[h]).link.state = l ∧
      (u.settle.hosts[h]).link.ingress = [] ∧ (u.settle.hosts[h]).link.egress = [] ∧ (u.settle.hosts[h]).link.attempts = 0 := by
  obtain ⟨v, hv⟩ := hc
  have hlink : (u.settle.hosts[h]).link = u.link (.host h) :=
    u.settle_retreat.idle (.host h) (by rw [hv]; exact v.closed_idle hl)
  rw [hlink, hv]
  exact ⟨rfl, rfl, rfl, rfl⟩

theorem State.settle_isolated {u : State} (hu : (u.hosts[h]).link.state = .isolated) :
    (u.settle.hosts[h]).link.state = .isolated := u.settle_retreat.isolated (p := .host h) hu

/-- Settles O49, second part: the action against the port as it stands, then the passes. -/
theorem own_port_action (s : State) (h : HPort) :
    (s.mgmt.action = some (.portReset h) → s.hosts[h].link.state ≠ .disabled →
      ∃ t, exec .selfPortCommandAction s = .next t ∧ t.hosts[h].link.state = .down ∧ t.hosts[h].link.ingress = [] ∧
        t.hosts[h].link.egress = [] ∧ t.hosts[h].link.attempts = 0 ∧ t.hosts[h].classPtr = .localAnswer ∧
        t.tracker.pointers[h] = 0 ∧ SameSettings s t) ∧
    (s.mgmt.action = some (.portDisable h) →
      ∃ t, exec .selfPortCommandAction s = .next t ∧ t.hosts[h].link.state = .disabled ∧
        t.hosts[h].link.ingress = [] ∧ t.hosts[h].link.egress = [] ∧ t.hosts[h].link.attempts = 0 ∧
        SameSettings s t) ∧
    (s.mgmt.action = some (.portIsolate h) → s.hosts[h].link.state = .up →
      ∃ t, exec .selfPortCommandAction s = .next t ∧ t.hosts[h].link.state = .isolated ∧ SameSettings s t) ∧
    (s.mgmt.action = some (.portRestore h) → s.hosts[h].link.state = .isolated →
      exec .selfPortCommandAction s = .next (State.settle (State.wake (State.sendNotification
        (State.setHead { s with
          hosts := s.hosts.set h { s.hosts[h] with
            link := { s.hosts[h].link with state := .up }, isolatedWaits := false }
          mgmt := { s.mgmt with action := none } } h
            (if s.hosts[h].link.ingress = [] then .noHead else .presented)))))) := by
  have hsettings : ∀ {t}, exec .selfPortCommandAction s = .next t → SameSettings s t := fun he =>
    settingsChangeOnlyByTheirWrites _ _ _ he rfl
  refine ⟨fun ha hl => ?_, fun ha => ?_, fun ha hl => ?_, fun ha hl => ?_⟩
  · have hexec := exec_selfPortCommandAction ha nofun
    have hact : s.clearAction.act (.portReset h) = s.clearAction.resetPort (.host h) := if_neg hl
    rw [hact] at hexec
    have hlink : (s.clearAction.resetPort (.host h)).wake.link (.host h) =
        ((s.clearAction.leftUp (.host h) .down).link (.host h)).closed .down := by
      rw [State.link_wake, State.resetPort_link, State.takeDown_link]
    obtain ⟨hclass, hpointer⟩ := s.clearAction.resetPort_host h
    obtain ⟨hhost, hptr⟩ := (s.clearAction.resetPort (.host h)).wake.settle_apart (h := h)
      (by rw [hlink]; exact PortUnit.closed_idle _ rfl)
    obtain ⟨hstate, hin, hout, hatt⟩ := State.settle_closed (l := .down) rfl ⟨_, hlink⟩
    exact ⟨_, hexec, hstate, hin, hout, hatt, (congrArg HostPort.classPtr hhost).trans hclass, hptr.trans hpointer,
      hsettings hexec⟩
  · have hexec := exec_selfPortCommandAction ha nofun
    have hact : s.clearAction.act (.portDisable h) = s.clearAction.takeDown (.host h) .disabled := rfl
    rw [hact] at hexec
    obtain ⟨hstate, hin, hout, hatt⟩ := State.settle_closed (u := (s.clearAction.takeDown (.host h) .disabled).wake)
      (l := .disabled) rfl ⟨_, State.takeDown_link _ (.host h) .disabled⟩
    exact ⟨_, hexec, hstate, hin, hout, hatt, hsettings hexec⟩
  · have hexec := exec_selfPortCommandAction ha nofun
    have hact : s.clearAction.act (.portIsolate h) = s.clearAction.leavesUp (.host h) .isolated := if_pos hl
    rw [hact] at hexec
    obtain ⟨hstate, -⟩ := State.leavesUp_emptied (s := s.clearAction) (.host h) (l := .isolated) (by decide)
    exact ⟨_, hexec, State.settle_isolated (u := (s.clearAction.leavesUp (.host h) .isolated).wake) hstate, hsettings hexec⟩
  · have hact : s.clearAction.act (.portRestore h) = s.clearAction.restore (.host h) := if_pos hl
    rw [exec_selfPortCommandAction ha nofun, hact, State.restore_host]
    rfl

end

/-- Settles O49, from its two parts. -/
theorem ownPortActionFollowsItsAnswer : Obligations.OwnPortActionFollowsItsAnswer :=
  ⟨fun s a c code o x hx hp => own_command_waits_for_its_answer s a c code o x hx hp, own_port_action⟩

end Sys2Proof.Machine

/-! PROOFS. The notification unit (chapter 10): alerts, sends, re-sends, the acknowledgement and the channel's words. -/

namespace Sys2Proof.Machine

-- One proof at a time: side by side they take more memory than the check allows.
set_option Elab.async false

section
variable {s : State} {d : DPort} {p : Packet}

/-! ## Alert intake (R179 to R182) -/

theorem State.popIngress_target {rest : List Packet} (hin : s.targets[d].link.ingress = p :: rest) :
    s.popIngress (.target d) = s.setTarget d fun y => { y with link := { y.link with ingress := rest } } :=
  s.setTarget_congr d (f := fun y => { y with link := { y.link with ingress := y.link.ingress.tail } })
    (congrArg (fun l : List Packet => { s.targets[d] with link := { s.targets[d].link with ingress := l } })
      (congrArg List.tail hin))

theorem exec_alertIntake {rest : List Packet} (hup : s.targets[d].link.state = .up)
    (hin : s.targets[d].link.ingress = p :: rest) (hk : p.kind = some .alm) : exec (.alertIntake d) s =
      .next (State.settle (if s.alertIsolates d p then ((s.popIngress (.target d)).takeAlert d p).requestIsolation (.target d)
        else (s.popIngress (.target d)).takeAlert d p)) := by
  change execAlertIntake d s = _
  unfold execAlertIntake
  rw [hup, hin]
  exact if_pos hk

theorem Packet.alertSeverity_eq {sev : Severity} (h : Severity.ofCode p.severity = some sev) : p.alertSeverity = sev := by
  unfold Packet.alertSeverity
  rw [h]
  rfl

theorem State.alertIsolates_iff {sev : Severity} (h : p.alertSeverity = sev) :
    s.alertIsolates d p = true ↔ sev = .failing ∧ s.targets[d].isolateOnFailing = true := by
  unfold State.alertIsolates
  rw [h, Bool.and_eq_true, beq_iff_eq]

/-- An unsent ALERT item with the alert's source, device and code (R179). -/
def PendingItem.SameAlert (i : PendingItem) (d : DPort) (p : Packet) : Prop := i.sent = false ∧ i.source = .target d ∧
  ∃ sv arg, i.kind = .alert p.device sv p.alertCode arg

theorem PendingItem.coalesces_iff (i : PendingItem) (d : DPort) (p : Packet) : i.coalesces d p = true ↔ i.SameAlert d p := by
  unfold PendingItem.coalesces PendingItem.SameAlert
  cases hk : i.kind with
  | alert dev sv code arg =>
    simp only [Bool.and_eq_true, Bool.not_eq_true', beq_iff_eq, and_assoc, ItemKind.alert.injEq]
    refine and_congr_right fun _ => and_congr_right fun _ => ⟨fun ⟨hd, hc⟩ => ⟨sv, arg, hd, rfl, hc, rfl⟩, ?_⟩
    rintro ⟨_, _, hd, -, hc, -⟩
    exact ⟨hd, hc⟩
  | fault k q => simp

theorem PendingItem.coalesced_alert {i : PendingItem} {dev : BitVec 4} {sv : Severity} {code : BitVec 16} {arg : BitVec 32}
    (hk : i.kind = .alert dev sv code arg) : i.coalesced p =
      { i with kind := .alert dev (sv.higher p.alertSeverity) code arg
               repeatCount := if i.repeatCount = 255 then 255 else i.repeatCount + 1 } := by
  unfold PendingItem.coalesced
  rw [hk]

/-- The first item the alert coalesces into is the one that changes (R180). -/
theorem coalesceInto_append {i : PendingItem} {l r : List PendingItem} (hl : ∀ j ∈ l, ¬ j.SameAlert d p) (hi : i.SameAlert d p) :
    coalesceInto d p (l ++ i :: r) = l ++ i.coalesced p :: r := by
  induction l with
  | nil => exact if_pos ((i.coalesces_iff d p).2 hi)
  | cons j l ih =>
    have hj : ¬ j.coalesces d p = true := mt (j.coalesces_iff d p).1 (hl j List.mem_cons_self)
    exact (if_neg hj).trans (congrArg (j :: ·) (ih fun k hk => hl k (List.mem_cons_of_mem _ hk)))

theorem any_coalesces_iff (items : List PendingItem) : items.any (·.coalesces d p) = true ↔ ∃ i ∈ items, i.SameAlert d p := by
  simp only [List.any_eq_true, PendingItem.coalesces_iff]

theorem State.takeAlert_low (hl : p.alertSeverity.below s.targets[d].threshold = true) : s.takeAlert d p = s := if_pos hl

theorem State.takeAlert_coalesced (hl : ¬ p.alertSeverity.below s.targets[d].threshold = true)
    (hi : ∃ i ∈ s.notifier.items, i.SameAlert d p) : s.takeAlert d p =
      { s with notifier := { s.notifier with items := coalesceInto d p s.notifier.items } } :=
  (if_neg hl).trans (if_pos ((any_coalesces_iff _).2 hi))

theorem State.takeAlert_new (hl : ¬ p.alertSeverity.below s.targets[d].threshold = true)
    (hi : ∀ i ∈ s.notifier.items, ¬ i.SameAlert d p) : s.takeAlert d p =
      if s.listHasRoom then s.appendItem (alertItem d p) else s.report [{ kind := .alertOverflow, port := .target d }] :=
  (if_neg hl).trans (if_neg fun h => by
    obtain ⟨i, hmem, hsame⟩ := (any_coalesces_iff _).1 h
    exact hi i hmem hsame)

theorem State.listHasRoom_iff (s : State) : s.listHasRoom = true ↔ s.notifier.items.length < 8 := decide_eq_true_iff

theorem Severity.below_iff (a b : Severity) : a.below b = true ↔ a.code.toNat < b.code.toNat := decide_eq_true_iff

theorem Severity.higher_eq (a b : Severity) : a.higher b = if a.code.toNat < b.code.toNat then b else a := by
  unfold Severity.higher
  simp only [Severity.below_iff]

end

/-- Settles O54: the four fates of an alert, then its isolation request. -/
theorem alertIsDiscardedCoalescedOrAppended : Obligations.AlertIsDiscardedCoalescedOrAppended := by
  intro d s p rest sev hup hin hk hsev u fate low same
  have hseverity := Packet.alertSeverity_eq hsev
  have hpop : s.popIngress (.target d) = u := State.popIngress_target hin
  have hthreshold : u.targets[d].threshold = s.targets[d].threshold :=
    (congrArg TargetPort.threshold (s.target_setTarget d fun y => { y with link := { y.link with ingress := rest } })).trans rfl
  have hlow : p.alertSeverity.below u.targets[d].threshold = true ↔ low := by
    rw [hseverity, hthreshold, Severity.below_iff]
  have hsame : ∀ i, i.SameAlert d p ↔ same i := fun i => Iff.rfl
  have hexec : ∀ {t}, u.takeAlert d p = t → exec (.alertIntake d) s = fate t := fun {t} ht => by
    rw [exec_alertIntake hup hin hk, hpop, ht]
    simp only [State.alertIsolates_iff hseverity]
    rfl
  refine ⟨fun hl => hexec (State.takeAlert_low (hlow.2 hl)), fun hl l i r hitems hfirst sv arg hkind hsent hsource => ?_,
    fun hl hnone hroom => ?_, fun hl hnone hfull => ?_⟩
  · have hi : i.SameAlert d p := ⟨hsent, hsource, sv, arg, hkind⟩
    have hmem : ∃ i ∈ u.notifier.items, i.SameAlert d p := ⟨i, by
      change i ∈ s.notifier.items
      rw [hitems]
      exact List.mem_append_right _ List.mem_cons_self, hi⟩
    have hinto : coalesceInto d p u.notifier.items = l ++ i.coalesced p :: r := by
      change coalesceInto d p s.notifier.items = _
      rw [hitems]
      exact coalesceInto_append hfirst hi
    refine hexec ?_
    rw [State.takeAlert_coalesced (mt hlow.1 hl) hmem, hinto, PendingItem.coalesced_alert hkind, hseverity, Severity.higher_eq]
  · refine hexec ((State.takeAlert_new (mt hlow.1 hl) hnone).trans ((if_pos (u.listHasRoom_iff.2 hroom)).trans ?_))
    unfold State.appendItem alertItem
    rw [hseverity]
    rfl
  · exact hexec ((State.takeAlert_new (mt hlow.1 hl) hnone).trans
      (if_neg (mt u.listHasRoom_iff.1 (Nat.not_lt.2 hfull))))

/-! ## Sends and copies (R186, R188) -/

section
variable {s : State}

theorem State.sendWaits_iff (s : State) : s.sendWaits = true ↔
    s.notifier.channel = .idle ∧ s.notifier.items ≠ [] ∧ s.hostUp s.mgmt.supervisor = true := by
  simp [State.sendWaits, and_assoc]

/-- A first send, spelled out (R186). -/
theorem State.sendNotification_eq {i : PendingItem} {rest : List PendingItem} (hc : s.notifier.channel = .idle)
    (hi : s.notifier.items = i :: rest) (hup : s.hostUp s.mgmt.supervisor = true)
    (hr : s.givesRoom s.mgmt.supervisor .notification = true) : s.sendNotification =
      (let q := notificationPacket s.notifier.address s.notifier.sequence { i with sent := true } s.notifier.noticesLost
      let v := s.placeHost s.mgmt.supervisor .notification q
      { v with notifier := { s.notifier with
          items := { i with sent := true } :: rest, channel := .awaitingAck, sequence := s.notifier.sequence + 1,
          outstanding := some { sequence := s.notifier.sequence, packet := q }, resends := 0,
          tRnt := some (s.now + tRntOf s.notifier.tRntCode), noticesLost := false } }) := by
  have hsend : (s.sendWaits && s.givesRoom s.mgmt.supervisor .notification) = true := by
    rw [hr, s.sendWaits_iff.2 ⟨hc, by rw [hi]; exact List.cons_ne_nil _ _, hup⟩]
    rfl
  unfold State.sendNotification
  rw [if_pos hsend, hi]
  rfl

theorem notificationPayload_length (q : Seq) (i : PendingItem) (lost : Bool) : (notificationPayload q i lost).length = 16 := by
  unfold notificationPayload
  cases i.kind <;> simp [leBytes_length]

theorem notificationPayload_sequence (q : Seq) (i : PendingItem) (lost : Bool) :
    (notificationPayload q i lost).take 2 = leBytes 2 q.toNat := by
  unfold notificationPayload
  cases i.kind <;> simp [leBytes_length]

theorem exec_notificationSend (s : State) : exec .notificationSend s = .next s.sendNotification.settle := rfl

theorem exec_notificationCopyPlaced (s : State) : exec .notificationCopyPlaced s = .next s.placeCopy.settle := rfl

theorem exec_tRntExpiry {m : Nat} (hc : s.notifier.channel = .awaitingAck) (hm : s.notifier.tRnt = some m) :
    exec .tRntExpiry s = .next (s.reach m).renotify.settle := by
  change execTRntExpiry s = _
  unfold execTRntExpiry
  rw [hc, hm]
  rfl

theorem State.restartRnt_awaiting (hc : s.notifier.channel = .awaitingAck) (n : Nat) : s.restartRnt n =
    { s with notifier := { s.notifier with resends := n, tRnt := some (s.now + tRntOf s.notifier.tRntCode) } } := by
  unfold State.restartRnt
  rw [← hc]

/-- A copy is presented to an UP supervisor, and withdrawn from one that is not (R188). -/
theorem State.presentCopy_eq {o : Outstanding} (ho : s.notifier.outstanding = some o) : s.presentCopy =
    if s.hostUp s.mgmt.supervisor then ({ s with notifier := { s.notifier with copy := some o.packet } } : State).placeCopy
    else { s with notifier := { s.notifier with copy := none } } := by
  unfold State.presentCopy
  rw [ho]

theorem State.placeCopy_of_room {q : Packet} (hq : s.notifier.copy = some q)
    (hr : s.givesRoom s.mgmt.supervisor .notification = true) : s.placeCopy =
      (let v := s.placeHost s.mgmt.supervisor .notification q
      { v with notifier := { s.notifier with copy := none } }) := by
  unfold State.placeCopy
  rw [hq]
  exact if_pos hr

end

/-- Settles O55, from the equation of a first send. -/
theorem notificationSendMarksTheHead : Obligations.NotificationSendMarksTheHead := by
  intro s i rest hc hi hup hr hdue
  have hsend := State.sendNotification_eq hc hi hup hr
  have hstill : s.sendNotification.settle = s.sendNotification :=
    State.settle_of_not_due _ (by rw [(s.sendNotification_onlyReports).admission]; exact hdue)
  refine ⟨_, _, (exec_notificationSend s).trans (congrArg _ (hstill.trans hsend)), rfl, rfl, rfl, rfl,
    notificationPayload_length _ _ _, rfl, notificationPayload_sequence _ _ _, ?_, rfl, rfl, rfl, rfl, rfl, rfl⟩
  change ((s.placeHost s.mgmt.supervisor .notification _).hosts[s.mgmt.supervisor]).link.egress = _
  unfold State.placeHost
  rw [State.host_setHost]

/-- Settles O56: the expiry below and at the limit, and the copy's placing. -/
theorem unacknowledgedNotificationIsResentOrStalls : Obligations.UnacknowledgedNotificationIsResentOrStalls := by
  intro s
  refine ⟨fun m o hc hm ho => ⟨fun hl => ?_, fun hl => ?_⟩, fun q hq hr hdue => ?_⟩
  · have hre : (s.reach m).renotify = ((s.reach m).restartRnt (s.notifier.resends + 1)).presentCopy := if_pos hl
    rw [exec_tRntExpiry hc hm, hre, State.restartRnt_awaiting (s := s.reach m) hc, State.presentCopy_eq (o := o) (by exact ho)]
    rfl
  · have hre : (s.reach m).renotify = (s.reach m).stall := if_neg (Nat.not_lt.2 hl)
    rw [exec_tRntExpiry hc hm, hre]
    rfl
  · rw [exec_notificationCopyPlaced, State.placeCopy_of_room hq hr]
    exact congrArg _ (State.settle_of_not_due _ hdue)

end Sys2Proof.Machine

/-! PROOFS. The channel's words (chapter 10) and the handling of a fault report by its class (chapter 9). -/

namespace Sys2Proof.Machine

-- One proof at a time: side by side they take more memory than the check allows.
set_option Elab.async false

section
variable {s : State} {a : Access}

/-! ## The acknowledge word and CHANNEL_REARM (R187, R189) -/

theorem exec_acknowledge (hx : s.executes a .acknowledge) : exec .acknowledge s = endWrite a (s.writeAcknowledge a.value) :=
  State.onAccess_of_executes hx fun a => endWrite a (s.writeAcknowledge a.value)

theorem exec_channelRearm (hx : s.executes a .channelRearm) : exec .channelRearm s = endCommand a s.takeRearm :=
  State.onAccess_of_executes hx fun a => endCommand a s.takeRearm

theorem exec_channelEnableWrite (hx : s.executes a .channelEnableWrite) :
    exec .channelEnableWrite s = endWrite a (s.writeChannel a.value) :=
  State.onAccess_of_executes hx fun a => endWrite a (s.writeChannel a.value)

theorem exec_supervisorPortWrite (hx : s.executes a .supervisorPortWrite) :
    exec .supervisorPortWrite s = endWrite a (s.writeSupervisor a.value) :=
  State.onAccess_of_executes hx fun a => endWrite a (s.writeSupervisor a.value)

/-- A sequence stands outstanding in AWAITING_ACK and STALLED alone (R185). -/
theorem Notifier.outstandingSequence_eq {n : Notifier} {o : Outstanding} (hc : n.channel = .awaitingAck ∨ n.channel = .stalled)
    (ho : n.outstanding = some o) : n.outstandingSequence = some o.sequence := by
  unfold Notifier.outstandingSequence
  rw [if_pos hc, ho]
  rfl

theorem Notifier.outstandingSequence_none {n : Notifier} (hc : n.channel = .disabled ∨ n.channel = .idle) :
    n.outstandingSequence = none :=
  if_neg (by rcases hc with h | h <;> rw [h] <;> decide)

theorem State.writeAcknowledge_matching {v : Word} (h : s.notifier.outstandingSequence = some (bits v 0 16)) :
    s.writeAcknowledge v = (({ s with notifier := s.notifier.acknowledged } : State).sendNotification, .taken) := if_pos h

theorem State.writeAcknowledge_other {v : Word} (h : s.notifier.outstandingSequence ≠ some (bits v 0 16)) :
    s.writeAcknowledge v = (s, .denied) := if_neg h

theorem State.takeRearm_stalled {o : Outstanding} (hc : s.notifier.channel = .stalled) (ho : s.notifier.outstanding = some o)
    (hup : s.hostUp s.mgmt.supervisor = true) : s.takeRearm =
      (({ s with notifier := { s.notifier with
        channel := .awaitingAck, resends := 0, tRnt := some (s.now + tRntOf s.notifier.tRntCode),
        copy := some o.packet } } : State).placeCopy, .result .done) := by
  have hcopy : (s.restartRnt 0).presentCopy = _ := (State.presentCopy_eq (s := s.restartRnt 0) ho).trans (if_pos hup)
  unfold State.takeRearm
  rw [if_pos hc, hcopy]
  rfl

theorem State.takeRearm_refused (hc : s.notifier.channel ≠ .stalled) : s.takeRearm = (s, .result .denied) := if_neg hc

end

/-- Settles O57: the word's two outcomes, and the channel restarted. -/
theorem acknowledgementEndsTheNotification : Obligations.AcknowledgementEndsTheNotification := by
  intro s a ended
  refine ⟨fun hx => ⟨fun o hc ho => ⟨fun hs => ?_, fun hs => ?_⟩, fun hc => ?_⟩, fun hx => ⟨fun o hc ho hup => ?_, fun hc => ?_⟩⟩
  · have hseq := Notifier.outstandingSequence_eq hc ho
    rw [exec_acknowledge hx]
    exact endWrite_taken (State.writeAcknowledge_matching (by rw [hseq, hs]))
  · have hseq := Notifier.outstandingSequence_eq hc ho
    rw [exec_acknowledge hx]
    exact endWrite_denied (State.writeAcknowledge_other (by rw [hseq]; exact fun e => hs (Option.some.inj e)))
  · rw [exec_acknowledge hx]
    exact endWrite_denied (State.writeAcknowledge_other (by rw [Notifier.outstandingSequence_none hc]; exact nofun))
  · rw [exec_channelRearm hx, State.takeRearm_stalled hc ho hup]
    exact endCommand_done (Access.code_channelRearm hx.2)
  · rw [exec_channelRearm hx, State.takeRearm_refused hc]
    exact endCommand_denied (Access.code_channelRearm hx.2)

/-! ## The notification address and the supervisor word (R190, R191) -/

section
variable {s : State} {v : Word}

theorem State.writeChannel_enable (he : v.getLsbD 63 = true) : s.writeChannel v =
    if ¬ (bits v 0 44).toNat % 16 = 0 then (s, .denied)
    else if s.notifier.channel = .disabled then
      (({ s with notifier := { s.notifier with address := bits v 0 44, channel := .idle } } : State).sendNotification, .taken)
    else ({ s with notifier := { s.notifier with address := bits v 0 44 } }, .taken) := by
  unfold State.writeChannel
  dsimp only
  rw [if_pos he]
  refine if_congr ?_ rfl rfl
  rw [Bool.not_eq_true', beq_eq_false_iff_ne]

theorem State.writeChannel_disable (he : v.getLsbD 63 = false) : s.writeChannel v =
    ({ s with notifier := { s.notifier with
      address := if (bits v 0 44).toNat % 16 = 0 then bits v 0 44 else s.notifier.address, channel := .disabled,
      tRnt := none, copy := none, outstanding := none } }, .taken) := by
  unfold State.writeChannel
  dsimp only
  rw [if_neg (by rw [he]; exact nofun)]
  by_cases ha : (bits v 0 44).toNat % 16 = 0
  · rw [if_pos ha, if_pos (by rw [ha]; rfl)]
    rfl
  · rw [if_neg ha, if_neg (by rw [beq_iff_eq]; exact ha)]
    rfl

theorem State.writeSupervisor_new {h : HPort} (hv : h.val = (bits v 0 2).toNat) (hn : h ≠ s.mgmt.supervisor) :
    s.writeSupervisor v = (({ s with mgmt := { s.mgmt with supervisor := h }
                                     notifier := { s.notifier with copy := none } } : State).sendNotification, .taken) := by
  have hh : (bits v 0 2).toFin = h := Fin.ext hv.symm
  unfold State.writeSupervisor
  dsimp only
  rw [hh, if_neg hn]

theorem State.writeSupervisor_same {h : HPort} (hv : h.val = (bits v 0 2).toNat) (hn : h = s.mgmt.supervisor) :
    s.writeSupervisor v = (s, .taken) := by
  have hh : (bits v 0 2).toFin = h := Fin.ext hv.symm
  unfold State.writeSupervisor
  dsimp only
  rw [hh, if_pos hn]

end

/-- Settles O58, from the equations of the two words. -/
theorem channelWritesEnableAndRedirect : Obligations.ChannelWritesEnableAndRedirect := by
  intro s a ended address aligned
  refine ⟨fun hx => ⟨fun he ha => ?_, fun he ha hc => ?_, fun he ha hc => ?_, fun he => ?_⟩,
    fun hx h hv => ⟨fun hn => ?_, fun hn => ?_⟩⟩
  · exact (exec_channelEnableWrite hx).trans (endWrite_denied ((State.writeChannel_enable he).trans (if_pos ha)))
  · exact (exec_channelEnableWrite hx).trans (endWrite_taken ((State.writeChannel_enable he).trans
      ((if_neg (not_not.2 ha)).trans (if_pos hc))))
  · exact (exec_channelEnableWrite hx).trans (endWrite_taken ((State.writeChannel_enable he).trans
      ((if_neg (not_not.2 ha)).trans (if_neg hc))))
  · exact (exec_channelEnableWrite hx).trans (endWrite_taken (State.writeChannel_disable he))
  · obtain ⟨t, hexec, hkept, ht⟩ := exec_taken (exec_supervisorPortWrite hx) (State.writeSupervisor_new hv hn)
    refine ⟨t, hexec, hkept.supervisor.trans ?_, ht⟩
    rw [(State.sendNotification_onlyReports _).mgmt]
  · exact (exec_supervisorPortWrite hx).trans (endWrite_taken (State.writeSupervisor_same hv hn))

/-! ## One report (R166 to R175) -/

section
variable {s : State} {r : Report}

theorem State.takeReport_ignore (hc : s.classOf r.kind = .ignore) : s.takeReport r = s.isolatedBy r := by
  unfold State.takeReport
  dsimp only
  rw [hc]
  rfl

theorem State.takeReport_record (hc : s.classOf r.kind = .record) :
    s.takeReport r = (s.isolatedBy r).queueRecord (s.formRecord r (s.reportOutcome r)) := by
  unfold State.takeReport
  dsimp only
  rw [hc]
  rfl

/-- NOTIFY and ISOLATE: the record, the snapshot and the notice (R167). -/
theorem State.takeReport_noticed (hc : s.classOf r.kind = .notify ∨ s.classOf r.kind = .isolate) : s.takeReport r =
    ((s.isolatedBy r).queueRecord (s.formRecord r (s.reportOutcome r))).snapAndNotice
      (s.formRecord r (s.reportOutcome r)) r.capture := by
  unfold State.takeReport
  dsimp only
  rcases hc with hc | hc <;> rw [hc] <;> rfl

/-- The port that a withheld isolation protects: no other holds grant and is UP (R38). -/
def State.standsAlone (s : State) (p : Port) : Bool :=
  match p with
  | .host h => s.granted h && (List.finRange 4).all fun g => g == h || !(s.granted g && s.hostUp g)
  | .target _ => false

theorem State.withholds_of_up {p : Port} (hup : (s.link p).state = .up) : s.withholds p = s.standsAlone p := by
  cases p with
  | host h =>
    have hhost : s.hostUp h = true := beq_iff_eq.2 hup
    unfold State.withholds State.standsAlone
    dsimp only
    rw [hhost, Bool.and_true]
  | target d => rfl

theorem State.judgeIsolation_of_up {p : Port} (hup : (s.link p).state = .up) :
    s.judgeIsolation p = if s.standsAlone p then .withheld else .carriedOut := by
  unfold State.judgeIsolation
  rw [if_neg (not_not.2 hup), State.withholds_of_up hup]

/-- The outcome of a report's isolation request, by its class and its port's state (R167, R175). -/
theorem State.reportOutcome_eq_iff (o : IsolationOutcome) (ho : o ≠ .noEffect) : s.reportOutcome r = o ↔
    s.classOf r.kind = .isolate ∧ (s.link r.port).state = .up ∧ (if s.standsAlone r.port then .withheld else .carriedOut) = o := by
  unfold State.reportOutcome
  by_cases hc : s.classOf r.kind = .isolate
  · rw [if_pos hc]
    by_cases hup : (s.link r.port).state = .up
    · rw [State.judgeIsolation_of_up hup]
      exact ⟨fun h => ⟨hc, hup, h⟩, fun h => h.2.2⟩
    · have hno : s.judgeIsolation r.port = .noEffect := if_pos hup
      rw [hno]
      exact ⟨fun h => absurd h.symm ho, fun h => absurd h.2.1 hup⟩
  · rw [if_neg hc]
    exact ⟨fun h => absurd h.symm ho, fun h => absurd h.1 hc⟩

theorem State.withheld_iff : (s.classOf r.kind == .isolate && (s.link r.port).state == .up && s.standsAlone r.port) = true ↔
    s.reportOutcome r = .withheld := by
  rw [State.reportOutcome_eq_iff _ (by decide), Bool.and_eq_true, Bool.and_eq_true, beq_iff_eq, beq_iff_eq, and_assoc]
  cases s.standsAlone r.port <;> simp

theorem State.carriedOut_iff : (s.classOf r.kind == .isolate && (s.link r.port).state == .up && !s.standsAlone r.port) = true ↔
    s.reportOutcome r = .carriedOut := by
  rw [State.reportOutcome_eq_iff _ (by decide), Bool.and_eq_true, Bool.and_eq_true, beq_iff_eq, beq_iff_eq, and_assoc]
  cases s.standsAlone r.port <;> simp

theorem Vector.set_getElem_fin {α : Type} {n : Nat} (v : Vector α n) (i : Fin n) : v.set i v[i] = v :=
  Vector.set_getElem_self i.isLt

theorem State.setHost_self_eq {h : HPort} {f : HostPort → HostPort} (hf : f s.hosts[h] = s.hosts[h]) : s.setHost h f = s := by
  unfold State.setHost
  rw [hf, Vector.set_getElem_fin]

theorem State.setTarget_self_eq {d : DPort} {f : TargetPort → TargetPort} (hf : f s.targets[d] = s.targets[d]) :
    s.setTarget d f = s := by
  unfold State.setTarget
  rw [hf, Vector.set_getElem_fin]

/-- An update that leaves the port unit as it is changes nothing. -/
theorem State.setLink_self_eq {p : Port} {f : PortUnit → PortUnit} (hf : f (s.link p) = s.link p) : s.setLink p f = s := by
  cases p with
  | host h =>
    exact State.setHost_self_eq (s := s) (h := h) (f := fun x => { x with link := f x.link })
      (congrArg (fun l : PortUnit => { s.hosts[h] with link := l }) hf)
  | target d =>
    exact State.setTarget_self_eq (s := s) (d := d) (f := fun x => { x with link := f x.link })
      (congrArg (fun l : PortUnit => { s.targets[d] with link := l }) hf)

/-- The port as the report leaves it: ISOLATED where the isolation is carried out (R175). -/
theorem State.isolatedBy_eq {b : Bool} (hb : b = true ↔ s.reportOutcome r = .carriedOut) :
    s.isolatedBy r = s.setLink r.port fun u => { u with state := if b then .isolated else u.state } := by
  unfold State.isolatedBy
  cases b with
  | true => exact if_pos (hb.1 rfl)
  | false => exact (if_neg fun h => Bool.false_ne_true (hb.2 h)).trans (State.setLink_self_eq rfl).symm

theorem Recorder.enqueue_full {q : Recorder} (f : FaultRecord) (h : 16 ≤ q.queue.length) :
    q.enqueue f = { q with overflow := true, sequence := q.sequence + 1 } := if_neg (Nat.not_lt.2 h)

theorem Recorder.enqueue_room {q : Recorder} (f : FaultRecord) (h : q.queue.length < 16) :
    q.enqueue f = { q with queue := q.queue ++ [f], sequence := q.sequence + 1 } := if_pos h

/-- What the record's numbering and queueing leave: the next sequence, and the snapshot as it was (R168, R169). -/
theorem Recorder.enqueue_rest (q : Recorder) (f : FaultRecord) :
    (q.enqueue f).sequence = q.sequence + 1 ∧ (q.enqueue f).snapshot = q.snapshot := by
  unfold Recorder.enqueue
  split <;> exact ⟨rfl, rfl⟩

theorem Recorder.snap_rest (q : Recorder) (f : FaultRecord) (c : Option HeaderCapture) :
    (q.snap f c).sequence = q.sequence ∧ (q.snap f c).queue = q.queue ∧ (q.snap f c).overflow = q.overflow := by
  unfold Recorder.snap
  split <;> exact ⟨rfl, rfl, rfl⟩

theorem Recorder.snap_empty {q : Recorder} (f : FaultRecord) (c : Option HeaderCapture) (h : q.snapshot.held = false) :
    (q.snap f c).snapshot = { held := true, multiple := q.snapshot.multiple, record := some f, capture := c } := by
  unfold Recorder.snap
  rw [if_neg (by rw [h]; exact nofun)]

theorem Recorder.snap_held {q : Recorder} (f : FaultRecord) (c : Option HeaderCapture) (h : q.snapshot.held = true) :
    (q.snap f c).snapshot = { q.snapshot with multiple := true } := by
  unfold Recorder.snap
  rw [if_pos h]

theorem State.notice_of_room {k : FaultKind} {p : Port} {q : Seq} (h : s.notifier.items.length < 8) : s.notice k p q =
    ({ s with notifier := { s.notifier with items := s.notifier.items ++
      [{ kind := .fault k q, source := p, repeatCount := 1, sent := false }] } } : State).sendNotification :=
  if_pos (s.listHasRoom_iff.2 h)

theorem State.notice_of_full {k : FaultKind} {p : Port} {q : Seq} (h : 8 ≤ s.notifier.items.length) : s.notice k p q =
    { s with notifier := { s.notifier with noticesLost := true } } :=
  if_neg (mt s.listHasRoom_iff.1 (Nat.not_lt.2 h))

end

/-- A report of any class but IGNORE numbers its record and queues or drops it (R168, R169). -/
theorem State.takeReport_enqueues (s : State) (r : Report) (hc : s.classOf r.kind ≠ .ignore) :
    let q := s.recorder.enqueue (s.formRecord r (s.reportOutcome r))
    (s.takeReport r).recorder.sequence = q.sequence ∧ (s.takeReport r).recorder.queue = q.queue ∧
      (s.takeReport r).recorder.overflow = q.overflow := by
  intro q
  rw [State.takeReport_recorder]
  cases hk : s.classOf r.kind with
  | ignore => exact absurd hk hc
  | record => exact ⟨rfl, rfl, rfl⟩
  | notify => exact Recorder.snap_rest _ _ _
  | isolate => exact Recorder.snap_rest _ _ _

/-- Settles O52: the steps of R167 by class, then the isolation that was carried out. -/
theorem reportIsHandledByItsClass : Obligations.ReportIsHandledByItsClass := by
  intro s r t class' alone withheld carriedOut v f recorded
  have halone : alone = s.standsAlone r.port := rfl
  have hcarried : carriedOut = true ↔ s.reportOutcome r = .carriedOut := State.carriedOut_iff
  have hwithheld : withheld = true ↔ s.reportOutcome r = .withheld := State.withheld_iff
  have hv : s.isolatedBy r = v := State.isolatedBy_eq hcarried
  have hf : s.formRecord r (s.reportOutcome r) = f := by
    unfold State.formRecord
    simp only [← hwithheld]
    rfl
  have hvrecorder : v.recorder = s.recorder := s.setLink_recorder _ _
  have hvnotifier : v.notifier = s.notifier := s.setLink_notifier _ _
  refine ⟨fun hc => ?_, fun hc => ?_, fun hc => ?_, fun hc => ?_, fun ho => ?_, fun ho => ?_⟩
  · have hno : ¬ s.reportOutcome r = .carriedOut := fun h => by
      have hiso := ((State.reportOutcome_eq_iff _ (by decide)).1 h).1
      rw [show s.classOf r.kind = .ignore from hc] at hiso
      cases hiso
    exact (State.takeReport_ignore hc).trans (if_neg hno)
  · obtain ⟨hsequence, hqueue, hoverflow⟩ := s.takeReport_enqueues r hc
    rw [hf] at hsequence hqueue hoverflow
    refine ⟨hsequence.trans (s.recorder.enqueue_rest f).1, fun hroom => ⟨hqueue.trans ?_, hoverflow.trans ?_⟩,
      fun hfull => ⟨hqueue.trans ?_, hoverflow.trans ?_⟩⟩
    · rw [Recorder.enqueue_room f hroom]
    · rw [Recorder.enqueue_room f hroom]
    · rw [Recorder.enqueue_full f hfull]
    · rw [Recorder.enqueue_full f hfull]
  · have ht : t = v.queueRecord f := by rw [← hv, ← hf]; exact State.takeReport_record hc
    refine ⟨?_, ?_⟩
    · rw [ht]
      exact (v.recorder.enqueue_rest f).2.trans (by rw [hvrecorder])
    · change t = { v with recorder := t.recorder }
      rw [ht]
      rfl
  · have ht : t = ({ v with recorder := (s.recorder.enqueue f).snap f r.capture } : State).notice f.kind f.port f.sequence := by
      have h := State.takeReport_noticed hc
      rw [hv, hf] at h
      rw [← hvrecorder]
      exact h
    have hrecorder : t.recorder = (s.recorder.enqueue f).snap f r.capture := by
      rw [ht, State.notice_recorder]
    have hrecorded : recorded = { v with recorder := (s.recorder.enqueue f).snap f r.capture } := by
      change ({ v with recorder := t.recorder } : State) = _
      rw [hrecorder]
    have hkept := (s.recorder.enqueue_rest f).2
    rw [hrecorded, hrecorder]
    refine ⟨fun hh => ?_, fun hh => ?_, fun hl => ?_, fun hl => ?_⟩
    · rw [Recorder.snap_empty f r.capture (by rw [hkept]; exact hh), hkept]
    · rw [Recorder.snap_held f r.capture (by rw [hkept]; exact hh), hkept]
    · rw [ht, State.notice_of_room (by rw [show State.notifier _ = s.notifier from hvnotifier]; exact hl), ← hvnotifier]
    · rw [ht, State.notice_of_full (by rw [show State.notifier _ = s.notifier from hvnotifier]; exact hl), ← hvnotifier]
  · exact if_neg fun h => by rw [hcarried.2 h] at ho; cases ho
  · have hreport : s.report [r] = t.leavesUp r.port .isolated := if_pos (hcarried.1 ho)
    rw [hreport]
    exact ⟨rfl, State.leavesUp_emptied r.port (by decide)⟩

end Sys2Proof.Machine

/-! PROOFS. The aperture map and what a read shows (chapter 11, R205): offsets, bit fields and bank records. -/

namespace Sys2Proof.Machine

-- One proof at a time: side by side they take more memory than the check allows.
set_option Elab.async false

/-! ## The map of offsets -/

theorem slot_eq_none {base n o : Nat} (h : o < base ∨ base + 8 * n ≤ o) : slot base n o = none :=
  dif_neg (by omega)

theorem slot_eq_some {base n : Nat} (i : Fin n) {o : Nat} (h : o = base + 8 * i.val) : slot base n o = some i := by
  have hi : (o - base) / 8 = i.val := by omega
  unfold slot
  rw [dif_pos ⟨by omega, by rw [hi]; exact i.isLt⟩]
  exact congrArg some (Fin.ext hi)

/-- The index of a word among the words of its region. -/
def wordIndex {m k : Nat} (a : Fin m) (b : Fin k) : Fin (m * k) :=
  ⟨k * a.val + b.val, by
    have ha : k * (a.val + 1) ≤ k * m := Nat.mul_le_mul_left k a.isLt
    rw [Nat.mul_comm m k]
    have := b.isLt
    rw [Nat.mul_add] at ha
    omega⟩

theorem recordOf_wordIndex {m k : Nat} (a : Fin m) (b : Fin k) : recordOf m k (wordIndex a b) = a := by
  have hk : 0 < k := Nat.lt_of_le_of_lt (Nat.zero_le _) b.isLt
  refine Fin.ext ?_
  change (k * a.val + b.val) / k = a.val
  rw [Nat.mul_add_div hk, Nat.div_eq_of_lt b.isLt, Nat.add_zero]

theorem wordOf_wordIndex {m k : Nat} (a : Fin m) (b : Fin k) : wordOf m k (wordIndex a b) = b := by
  refine Fin.ext ?_
  change (k * a.val + b.val) % k = b.val
  rw [Nat.mul_add_mod, Nat.mod_eq_of_lt b.isLt]

theorem slot_record {base m k : Nat} (a : Fin m) (b : Fin k) {o : Nat} (h : o = base + 8 * (k * a.val + b.val)) :
    slot base (m * k) o = some (wordIndex a b) := slot_eq_some (wordIndex a b) h

theorem regAt_window (n : WinIx) (i : Fin 4) : regAt (0x10000 + 32 * n.val + 8 * i.val) = .stagingWindow n i ∧
    regAt (0x20000 + 32 * n.val + 8 * i.val) = .activeWindow n i := by
  have hn := n.isLt
  have hi := i.isLt
  constructor
  · have hslot := slot_record (base := 0x10000) n i (o := 0x10000 + 32 * n.val + 8 * i.val) (by omega)
    unfold regAt
    rw [hslot]
    simp (disch := omega) [slot_eq_none, recordOf_wordIndex, wordOf_wordIndex]
  · have hslot := slot_record (base := 0x20000) n i (o := 0x20000 + 32 * n.val + 8 * i.val) (by omega)
    unfold regAt
    rw [hslot]
    simp (disch := omega) [slot_eq_none, recordOf_wordIndex, wordOf_wordIndex]

theorem regAt_group (n : GroupIx) (i : Fin 2) : regAt (0x10400 + 16 * n.val + 8 * i.val) = .stagingGroup n i ∧
    regAt (0x20400 + 16 * n.val + 8 * i.val) = .activeGroup n i := by
  have hn := n.isLt
  have hi := i.isLt
  constructor
  · have hslot := slot_record (base := 0x10400) n i (o := 0x10400 + 16 * n.val + 8 * i.val) (by omega)
    unfold regAt
    rw [hslot]
    simp (disch := omega) [slot_eq_none, recordOf_wordIndex, wordOf_wordIndex]
  · have hslot := slot_record (base := 0x20400) n i (o := 0x20400 + 16 * n.val + 8 * i.val) (by omega)
    unfold regAt
    rw [hslot]
    simp (disch := omega) [slot_eq_none, recordOf_wordIndex, wordOf_wordIndex]

theorem regAt_ortEntry (e : EntryIx) (i : Fin 2) : regAt (0x30000 + 16 * e.val + 8 * i.val) = .ortEntry e i := by
  have he := e.isLt
  have hi := i.isLt
  have hslot := slot_record (base := 0x30000) e i (o := 0x30000 + 16 * e.val + 8 * i.val) (by omega)
  unfold regAt
  rw [hslot]
  simp (disch := omega) [slot_eq_none, recordOf_wordIndex, wordOf_wordIndex]

theorem regAt_pendingItem (n : Fin 8) (i : Fin 2) : regAt (0x4140 + 16 * n.val + 8 * i.val) = .pendingItem n i := by
  have hn := n.isLt
  have hi := i.isLt
  have hslot := slot_record (base := 0x4140) n i (o := 0x4140 + 16 * n.val + 8 * i.val) (by omega)
  unfold regAt
  rw [hslot]
  simp (disch := omega) [slot_eq_none, recordOf_wordIndex, wordOf_wordIndex]

theorem portCode_lt (p : Port) : portCode p < 10 := by
  cases p with
  | host h => exact Nat.lt_trans h.isLt (by decide)
  | target d => exact Nat.add_lt_add_left d.isLt 4

theorem portAt_portCode (p : Port) : portAt ⟨portCode p, portCode_lt p⟩ = p := by
  cases p with
  | host h => exact dif_pos h.isLt
  | target d =>
    refine (dif_neg (Nat.not_lt.2 (Nat.le_add_right 4 d.val))).trans (congrArg Port.target (Fin.ext ?_))
    exact Nat.add_sub_cancel_left 4 d.val

theorem regAt_portRecord (p : Port) (i : Fin 4) : regAt (0x1000 + 32 * portCode p + 8 * i.val) = .portRecord p i := by
  have hp := portCode_lt p
  have hi := i.isLt
  have hslot := slot_record (base := 0x1000) (⟨portCode p, hp⟩ : Fin 10) i (o := 0x1000 + 32 * portCode p + 8 * i.val)
    (by change _ = 0x1000 + 8 * (4 * portCode p + i.val); omega)
  unfold regAt
  rw [hslot]
  simp (disch := omega) [slot_eq_none, recordOf_wordIndex, wordOf_wordIndex, portAt_portCode]

theorem faultKinds_code (k : FaultKind) : faultKinds[k.code] = k := by
  cases k <;> rfl

theorem regAt_faultClass (k : FaultKind) : regAt (0x2000 + 8 * k.code.val) = .faultClass k := by
  have hk := k.code.isLt
  have hslot := slot_eq_some (base := 0x2000) k.code (o := 0x2000 + 8 * k.code.val) rfl
  have hkind : faultKinds[k.code.val] = k := faultKinds_code k
  unfold regAt
  rw [hslot]
  simp (disch := omega) [slot_eq_none, hkind]

/-- The single words stand at their offsets, and what lies between them is unassigned. -/
theorem regAt_words : [0x0, 0x8, 0x10, 0x100, 0x108, 0x110, 0x118, 0x120, 0x128, 0x130, 0x200, 0x208, 0x300, 0x308, 0x3000,
      0x3010, 0x3018, 0x3020, 0x3100, 0x3120, 0x4000, 0x4008, 0x4100, 0x18, 0x5000].map regAt =
    [.identification 0, .identification 1, .identification 2, .grantSet, .supervisorPort, .apertureBase,
      .notificationAddress, .tRntCode, .resendLimit, .drainDeadline, .commandWord, .commandResult, .commitStatus 0,
      .commitStatus 1, .faultCounters, .faultHead 0, .faultHead 1, .faultHead 2, .snapshot 0, .snapshot 4, .channelState,
      .acknowledge, .pendingOccupancy, .unassigned, .unassigned] := by
  rfl

end Sys2Proof.Machine

/-! PROOFS. The bit fields of the aperture words, and the words that show the state (chapter 11, R205). -/

namespace Sys2Proof.Machine

-- One proof at a time: side by side they take more memory than the check allows.
set_option Elab.async false

/-! ## Bit fields -/

theorem placed_eq_placedNat {n : Nat} (lo : Nat) (v : BitVec n) : placed lo v = placedNat lo v.toNat := by
  unfold placed placedNat
  rw [BitVec.ofNat_toNat]

theorem placedNat_zero (lo : Nat) : placedNat lo 0 = 0#64 := BitVec.zero_shiftLeft lo

theorem placedBit_eq_placed (lo : Nat) (b : Bool) : placedBit lo b = placed lo (BitVec.ofBool b) := by
  cases b with
  | true => rfl
  | false => exact (BitVec.zero_shiftLeft lo).symm

theorem placedNat_fin {n : Nat} (lo : Nat) (i : Fin (2 ^ n)) : placedNat lo i.val = placed lo (BitVec.ofFin i) := by
  rw [placed_eq_placedNat]
  rfl

theorem bits_or (v w : Word) (lo n : Nat) : bits (v ||| w) lo n = bits v lo n ||| bits w lo n := by
  unfold bits
  rw [BitVec.extractLsb'_or]

theorem getLsbD_placed {n : Nat} (lo : Nat) (v : BitVec n) (k : Nat) :
    (placed lo v).getLsbD k = (decide (k < 64) && !decide (k < lo) && v.getLsbD (k - lo)) := by
  unfold placed
  rw [BitVec.getLsbD_shiftLeft, BitVec.getLsbD_setWidth]
  by_cases hk : k < 64
  · rw [decide_eq_true (show k - lo < 64 by omega), Bool.true_and]
  · rw [decide_eq_false hk, Bool.false_and, Bool.false_and, Bool.false_and]

/-- A field reads back where it was placed. -/
theorem bits_placed {n : Nat} (lo : Nat) (v : BitVec n) (h : lo + n ≤ 64) : bits (placed lo v) lo n = v := by
  unfold bits
  refine BitVec.eq_of_getLsbD_eq fun i hi => ?_
  rw [BitVec.getLsbD_extractLsb', getLsbD_placed, Nat.add_sub_cancel_left, decide_eq_true hi,
    decide_eq_true (show lo + i < 64 by omega), decide_eq_false (show ¬ lo + i < lo by omega)]
  rfl

/-- A field shows nothing where it does not reach. -/
theorem bits_placed_apart {n m : Nat} {lo lo' : Nat} (v : BitVec m) (h : lo + n ≤ lo' ∨ lo' + m ≤ lo) :
    bits (placed lo' v) lo n = 0#n := by
  unfold bits
  refine BitVec.eq_of_getLsbD_eq fun i hi => ?_
  rw [BitVec.getLsbD_extractLsb', getLsbD_placed, BitVec.getLsbD_zero]
  rcases h with h | h
  · rw [decide_eq_true (show lo + i < lo' by omega)]
    simp
  · rw [BitVec.getLsbD_of_ge v (lo + i - lo') (by omega)]
    simp

theorem getLsbD_placedBit (lo : Nat) (b : Bool) (h : lo < 64) : (placedBit lo b).getLsbD lo = b := by
  rw [placedBit_eq_placed, getLsbD_placed, Nat.sub_self, decide_eq_true h, decide_eq_false (Nat.lt_irrefl lo)]
  cases b <;> rfl

theorem getLsbD_placed_apart {m : Nat} {lo k : Nat} (v : BitVec m) (h : k < lo ∨ lo + m ≤ k) : (placed lo v).getLsbD k = false := by
  rw [getLsbD_placed]
  rcases h with h | h
  · rw [decide_eq_true h]
    simp
  · rw [BitVec.getLsbD_of_ge v (k - lo) (by omega)]
    simp

/-! ## Bank records (R76, R205) -/

theorem placedBit_apart {lo n k : Nat} (b : Bool) (h : lo + n ≤ k ∨ k + 1 ≤ lo) : bits (placedBit k b) lo n = 0#n := by
  rw [placedBit_eq_placed]
  exact bits_placed_apart _ h

theorem getLsbD_placedBit_apart {lo k : Nat} (b : Bool) (h : k < lo ∨ lo + 1 ≤ k) : (placedBit lo b).getLsbD k = false := by
  rw [placedBit_eq_placed]
  exact getLsbD_placed_apart _ h

theorem group_placed (lo : Nat) (i : GroupIx) : placedNat lo i.val = placed lo (BitVec.ofFin i : BitVec 2) :=
  placedNat_fin (n := 2) lo i

theorem Window.withWord_word (v w : Window) : ((v.withWord 0 (w.word 0)).withWord 1 (w.word 1)).withWord 2 (w.word 2) = w := by
  simp (disch := omega) only [Window.withWord, Window.word, group_placed, bits_or, BitVec.getLsbD_or, bits_placed,
    bits_placed_apart, placedBit_apart, getLsbD_placedBit, getLsbD_placed_apart, getLsbD_placedBit_apart, BitVec.or_zero,
    BitVec.zero_or, Bool.or_false, Bool.false_or]

theorem Group.withWord_word (f g : Group) : (f.withWord 0 (g.word 0)).withWord 1 (g.word 1) = g := by
  simp (disch := omega) only [Group.withWord, Group.word, bits_or, BitVec.getLsbD_or, bits_placed,
    bits_placed_apart, placedBit_apart, getLsbD_placedBit, getLsbD_placed_apart, getLsbD_placedBit_apart, BitVec.or_zero,
    BitVec.zero_or, Bool.or_false, Bool.false_or]

/-! ## The words shown -/

/-- Every entry is in one of the four states. -/
theorem countP_states (l : List Entry) : (l.countP fun e => e.state == .free) + (l.countP fun e => e.state == .waiting) +
    (l.countP fun e => e.state == .receiving) + (l.countP fun e => e.state == .quarantined) = l.length := by
  induction l with
  | nil => rfl
  | cons e l ih =>
    rw [List.countP_cons, List.countP_cons, List.countP_cons, List.countP_cons, List.length_cons, ← ih]
    cases e.state <;> simp <;> omega

/-- Identification, the settings, the command result and the commit status (R95, R199, R203). -/
theorem State.liveWord_registers (s : State) :
    let inState (st : EntryState) : Nat := s.tracker.ort.toList.countP fun e => e.state == st
    s.liveWord (.identification 0) = 0x0000000146100C3B ∧
    s.liveWord (.identification 1) = placedNat 0 4 ||| placedNat 8 6 ||| placedNat 16 32 ||| placedNat 24 4 |||
      placedNat 32 128 ||| placedNat 40 16 ||| placedNat 48 8 ∧
    s.liveWord (.identification 2) = placedNat 0 (inState .free) ||| placedNat 16 (inState .waiting) |||
      placedNat 32 (inState .receiving) ||| placedNat 48 (inState .quarantined) ∧
    inState .free + inState .waiting + inState .receiving + inState .quarantined = 128 ∧
    s.liveWord .grantSet = placedNat 0 s.mgmt.grant.toNat ∧ s.liveWord .supervisorPort = placedNat 0 s.mgmt.supervisor.val ∧
    s.liveWord .apertureBase = placedNat 0 s.mgmt.apertureBase.toNat ∧
    s.liveWord .notificationAddress = placedNat 0 s.notifier.address.toNat ||| placedBit 63 (s.notifier.channel != .disabled) ∧
    s.liveWord .tRntCode = placedNat 0 s.notifier.tRntCode ∧ s.liveWord .resendLimit = placedNat 0 s.notifier.resendLimit ∧
    s.liveWord .drainDeadline = placedNat 0 s.commit.drainDeadline ∧
    s.liveWord .commandWord = 0 ∧ s.liveWord .acknowledge = 0 ∧ s.liveWord .unassigned = 0 ∧
    s.liveWord .commandResult = placedNat 0 s.mgmt.result.code.toNat |||
      placedNat 8 (match s.mgmt.result.outcome with | .done => 0 | .empty => 2 | .denied => 3) ∧
    (∀ k : FaultKind, s.liveWord (.faultClass k) =
      placedNat 0 (match s.classOf k with | .ignore => 0 | .record => 1 | .notify => 2 | .isolate => 3)) ∧
    s.liveWord (.commitStatus 0) = placedNat 0 (match s.commit.result.code with
        | .none => 0 | .done => 1 | .badWindow => 2 | .badGroup => 3 | .overlap => 4 | .drainExpired => 5
        | .abandoned => 6) |||
      placedNat 8 (s.commit.result.first.getD 255) ||| placedNat 16 (s.commit.result.second.getD 255) |||
      placedNat 32 s.commit.result.generation.toNat ∧
    s.liveWord (.commitStatus 1) = (match s.commit.engine with
        | .idle => 0 | .validating m => placedNat 0 1 ||| placedBit 4 (m == .drain)
        | .draining => placedNat 0 2 ||| placedBit 4 true) ||| placedNat 32 s.banks.generation.toNat := by
  intro inState
  refine ⟨rfl, rfl, rfl, ?_, placed_eq_placedNat _ _, rfl, placed_eq_placedNat _ _, ?_, rfl, rfl, rfl, rfl, rfl, rfl, ?_,
    fun k => ?_, ?_, ?_⟩
  · exact (countP_states _).trans s.tracker.ort.size_toArray
  · exact congrArg (· ||| _) (placed_eq_placedNat _ _)
  · change placed 0 s.mgmt.result.code ||| placedNat 8 s.mgmt.result.outcome.code = _
    rw [placed_eq_placedNat]
    cases s.mgmt.result.outcome <;> rfl
  · change placed 0 (s.classOf k).code = _
    rw [placed_eq_placedNat]
    cases s.classOf k <;> rfl
  · change placedNat 0 s.commit.result.code.code ||| _ ||| _ ||| placed 32 s.commit.result.generation = _
    rw [placed_eq_placedNat]
    cases s.commit.result.code <;> rfl
  · change placedNat 0 s.commit.engine.code ||| placedBit 4 s.commit.engine.isDrain ||| placed 32 s.banks.generation = _
    rw [placed_eq_placedNat]
    cases s.commit.engine <;> rfl

/-- A port record (R43). -/
theorem State.liveWord_portRecord (s : State) (p : Port) :
    let u := s.link p
    s.liveWord (.portRecord p 0) = placedNat 0 (match u.state with
        | .disabled => 0 | .down => 1 | .training => 2 | .up => 3 | .isolated => 4 | .failed => 5) |||
      placedNat 8 u.attempts ||| placedNat 16 u.ingress.length ||| placedNat 24 u.egress.length |||
      placedNat 32 (match p with | .host h => s.tracker.hostCount h | .target d => s.tracker.targetCount d) ∧
    s.liveWord (.portRecord p 3) = 0 ∧
    (∀ h, p = .host h → s.liveWord (.portRecord p 1) = placedNat 0 u.attemptLimit ||| placedNat 8 s.hosts[h].outstandingLimit ∧
      s.liveWord (.portRecord p 2) = 0) ∧
    (∀ d, p = .target d → s.liveWord (.portRecord p 1) = placedNat 0 u.attemptLimit ∧
      s.liveWord (.portRecord p 2) = placedNat 0 s.targets[d].outstandingLimit ||| placedNat 8 s.targets[d].timeoutCode.val |||
        placedNat 12 (match s.targets[d].threshold with | .info => 1 | .degraded => 2 | .failing => 3) |||
        placedBit 16 s.targets[d].isolateOnFailing) := by
  intro u
  refine ⟨?_, rfl, ?_, ?_⟩
  · change placedNat 0 u.state.code ||| _ ||| _ ||| _ ||| placedNat 32 (s.trackerCount p) = _
    cases u.state <;> cases p <;> rfl
  · rintro h rfl
    exact ⟨rfl, rfl⟩
  · rintro d rfl
    refine ⟨rfl, ?_⟩
    change _ ||| _ ||| placed 12 s.targets[d].threshold.code ||| _ = _
    rw [placed_eq_placedNat]
    cases s.targets[d].threshold <;> rfl

/-- An ORT entry record (R141). -/
theorem State.liveWord_ortEntry (s : State) (n : EntryIx) :
    let e := s.tracker.ort[n]
    s.liveWord (.ortEntry n 0) = placedNat 0 (match e.state with
        | .free => 0 | .waiting => 1 | .receiving => 2 | .quarantined => 3) ||| placedBit 2 e.phase |||
      placedNat 4 (match e.kind with | .read => 0 | .writeAck => 1 | .writeConverted => 2) ||| placedNat 8 e.host.val |||
      placedNat 12 e.target.val ||| placedBit 16 e.sent ||| placedBit 17 e.orphaned ||| placedBit 18 e.absorbed |||
      placedBit 19 e.deadline.isSome ||| placedNat 24 e.hostTag.toNat ||| placedNat 32 e.length.toNat |||
      placedNat 44 e.delivered ||| placedNat 56 e.window.val ∧
    s.liveWord (.ortEntry n 1) = placedNat 0 e.address.toNat ||| placedNat 48 e.generation.toNat := by
  intro e
  refine ⟨?_, ?_⟩
  · change placedNat 0 e.state.code ||| _ ||| placedNat 4 e.kind.code ||| _ ||| _ ||| _ ||| _ ||| _ ||| _ |||
      placed 24 e.hostTag ||| placed 32 e.length ||| _ ||| _ = _
    rw [placed_eq_placedNat, placed_eq_placedNat]
    cases e.state <;> cases e.kind <;> rfl
  · change placed 0 e.address ||| placed 48 e.generation = _
    rw [placed_eq_placedNat, placed_eq_placedNat]

/-- The words of a fault record as R205 lays them out. -/
def FaultRecord.shown0 (f : FaultRecord) : Word :=
  placedNat 8 f.kind.code.val ||| placedNat 16 (portCode f.port) ||| placedNat 32 f.sequence.toNat |||
    (match f.detail with
      | .none => 0 | .notSent => placedNat 48 1 | .absorbed => placedNat 48 2 | .isolationWithheld => placedNat 48 3
      | .count n => placedNat 48 4 ||| placedNat 56 n)

theorem FaultRecord.word0_eq (f : FaultRecord) : f.word0 = f.shown0 := by
  unfold FaultRecord.word0 FaultRecord.shown0
  rw [placed_eq_placedNat, BitVec.or_assoc _ (placedNat 48 _)]
  congr 1
  cases f.detail with
  | count n => rfl
  | none | notSent | absorbed | isolationWithheld =>
    change _ ||| placedNat 56 0 = _
    rw [placedNat_zero, BitVec.or_zero]
    rfl

def FaultRecord.shown1 (f : FaultRecord) : Word :=
  (match f.entry with | some e => placedNat 0 e.val ||| placedBit 7 true | none => 0) |||
  (match f.hostTag with | some t => placedNat 8 t.toNat ||| placedBit 16 true | none => 0) |||
  (match f.window with | some w => placedNat 24 w.val ||| placedBit 31 true | none => 0) ||| placedNat 32 f.generation.toNat

theorem FaultRecord.word1_eq (f : FaultRecord) : f.word1 = f.shown1 := by
  unfold FaultRecord.word1 FaultRecord.shown1
  rw [placed_eq_placedNat 32]
  cases f.hostTag with
  | none => cases f.entry <;> cases f.window <;> rfl
  | some t =>
    have htag : placed 8 t = placedNat 8 t.toNat := placed_eq_placedNat 8 t
    cases f.entry <;> cases f.window <;> (dsimp only; rw [htag])

def FaultRecord.shown2 (f : FaultRecord) : Word :=
  match f.address with | some a => placedNat 0 a.toNat ||| placedBit 63 true | none => 0

theorem FaultRecord.word2_eq (f : FaultRecord) : f.word2 = f.shown2 := by
  unfold FaultRecord.word2 FaultRecord.shown2
  cases f.address with
  | none => rfl
  | some a => exact congrArg (· ||| _) (placed_eq_placedNat _ _)

/-- The fault queue and the snapshot (R168 to R172). -/
theorem State.liveWord_faults (s : State) :
    s.liveWord .faultCounters = placedNat 0 s.recorder.queue.length ||| placedBit 8 s.recorder.overflow |||
      placedNat 16 s.recorder.sequence.toNat ∧
    (s.recorder.queue = [] → ∀ i, s.liveWord (.faultHead i) = 0) ∧
    (∀ f rest, s.recorder.queue = f :: rest → s.liveWord (.faultHead 0) = placedBit 0 true ||| f.shown0 ∧
      s.liveWord (.faultHead 1) = f.shown1 ∧ s.liveWord (.faultHead 2) = f.shown2) ∧
    s.liveWord (.snapshot 0) = placedBit 0 s.recorder.snapshot.held ||| placedBit 1 s.recorder.snapshot.multiple |||
      ((s.recorder.snapshot.record.map FaultRecord.shown0).getD 0) ∧
    s.liveWord (.snapshot 1) = (s.recorder.snapshot.record.map FaultRecord.shown1).getD 0 ∧
    s.liveWord (.snapshot 2) = (s.recorder.snapshot.record.map FaultRecord.shown2).getD 0 ∧
    s.liveWord (.snapshot 3) = (match s.recorder.snapshot.capture with
      | some c => placedBit 0 true ||| placedNat 8 c.kindCode.toNat ||| placedNat 16 c.tag.toNat ||| placedNat 24 c.length.toNat
      | none => 0) ∧
    s.liveWord (.snapshot 4) = (match s.recorder.snapshot.capture with | some c => placedNat 0 c.address.toNat | none => 0) := by
  have h0 : FaultRecord.word0 = FaultRecord.shown0 := funext FaultRecord.word0_eq
  have h1 : FaultRecord.word1 = FaultRecord.shown1 := funext FaultRecord.word1_eq
  have h2 : FaultRecord.word2 = FaultRecord.shown2 := funext FaultRecord.word2_eq
  refine ⟨congrArg (_ ||| ·) (placed_eq_placedNat _ _), fun hq i => ?_, fun f rest hq => ?_, ?_, ?_, ?_, ?_, ?_⟩
  · change s.recorder.headWord i = 0
    unfold Recorder.headWord
    rw [hq]
  · rw [← h0, ← h1, ← h2]
    change s.recorder.headWord 0 = _ ∧ s.recorder.headWord 1 = _ ∧ s.recorder.headWord 2 = _
    unfold Recorder.headWord
    rw [hq]
    exact ⟨rfl, rfl, rfl⟩
  · rw [← h0]
    rfl
  · rw [← h1]
    rfl
  · rw [← h2]
    rfl
  · change s.recorder.snapshot.word 3 = _
    unfold Snapshot.word
    cases s.recorder.snapshot.capture with
    | none => rfl
    | some c =>
      dsimp only
      rw [placed_eq_placedNat 8, placed_eq_placedNat 16, placed_eq_placedNat 24]
  · change s.recorder.snapshot.word 4 = _
    unfold Snapshot.word
    cases s.recorder.snapshot.capture with
    | none => rfl
    | some c => exact placed_eq_placedNat _ _

/-- The channel state and the pending items (R184, R185). -/
theorem State.liveWord_notifier (s : State) :
    let n := s.notifier
    s.liveWord .channelState = placedNat 0 (match n.channel with
        | .disabled => 0 | .idle => 1 | .awaitingAck => 2 | .stalled => 3) ||| placedNat 4 n.resends |||
      placedBit 8 n.noticesLost ||| (match n.outstanding with
        | some o => placedBit 9 true ||| placedNat 16 o.sequence.toNat | none => 0) ||| placedNat 32 n.sequence.toNat ∧
    s.liveWord .pendingOccupancy = placedNat 0 n.items.length ∧
    (∀ (i : Fin 8) (w : Fin 2), n.items.length ≤ i.val → s.liveWord (.pendingItem i w) = 0) ∧
    (∀ (i : Fin 8) (x : PendingItem), n.items[i.val]? = some x →
      let common := placedBit 1 x.sent ||| placedNat 8 (portCode x.source) ||| placedNat 24 x.repeatCount.toNat
      (∀ dev sev code arg, x.kind = .alert dev sev code arg → s.liveWord (.pendingItem i 0) = common |||
          placedNat 16 dev.toNat ||| placedNat 20 (match sev with | .info => 1 | .degraded => 2 | .failing => 3) |||
          placedNat 32 code.toNat ∧ s.liveWord (.pendingItem i 1) = placedNat 0 arg.toNat) ∧
      (∀ k q, x.kind = .fault k q → s.liveWord (.pendingItem i 0) = common ||| placedBit 0 true |||
        placedNat 32 k.code.val ||| placedNat 48 q.toNat ∧ s.liveWord (.pendingItem i 1) = 0)) := by
  intro n
  refine ⟨?_, rfl, fun i w hi => ?_, fun i x hx => ?_⟩
  · change placedNat 0 n.channel.code ||| _ ||| _ ||| placedBit 9 n.outstanding.isSome |||
      placed 16 ((n.outstanding.map fun o : Outstanding => o.sequence).getD 0) ||| placed 32 n.sequence = _
    rw [placed_eq_placedNat 16, placed_eq_placedNat 32, BitVec.or_assoc _ (placedBit 9 _)]
    have hout : placedBit 9 n.outstanding.isSome ||| placedNat 16 ((n.outstanding.map fun o : Outstanding => o.sequence).getD 0).toNat =
        match n.outstanding with | some o => placedBit 9 true ||| placedNat 16 o.sequence.toNat | none => 0 := by
      cases n.outstanding <;> rfl
    rw [hout]
    cases n.channel <;> rfl
  · change n.itemWord i w = 0
    unfold Notifier.itemWord
    rw [List.getElem?_eq_none hi]
  · have hword : ∀ w, s.liveWord (.pendingItem i w) = x.word w := fun w => by
      change n.itemWord i w = _
      unfold Notifier.itemWord
      rw [hx]
    intro common
    refine ⟨fun dev sev code arg hk => ?_, fun k q hk => ?_⟩
    · rw [hword, hword]
      unfold PendingItem.word
      dsimp only
      rw [hk]
      dsimp only
      rw [placed_eq_placedNat 24, placed_eq_placedNat 16, placed_eq_placedNat 20, placed_eq_placedNat 32, placed_eq_placedNat 0,
        ← BitVec.or_assoc, ← BitVec.or_assoc]
      refine ⟨?_, rfl⟩
      cases sev <;> rfl
    · rw [hword, hword]
      unfold PendingItem.word
      dsimp only
      rw [hk]
      dsimp only
      rw [placed_eq_placedNat 24, placed_eq_placedNat 48, ← BitVec.or_assoc, ← BitVec.or_assoc]
      exact ⟨rfl, rfl⟩

/-- A window record's words (R205). -/
theorem Window.word_eq (w : Window) :
    w.word 0 = placedBit 0 w.valid ||| placedNat 1 w.level.toNat ||| placedBit 3 w.readAllowed |||
      placedBit 4 w.writeAllowed ||| placedNat 8 w.hostSet.toNat ||| placedNat 12 w.destKind.toNat |||
      placedNat 16 w.destPort.toNat ||| placedNat 20 w.group.val ||| placedBit 24 w.convert ∧
    w.word 1 = placedNat 0 w.base.toNat ||| placedNat 32 w.limit.toNat ∧
    w.word 2 = placedNat 0 w.translationBase.toNat ∧ w.word 3 = 0 := by
  unfold Window.word
  dsimp only
  rw [placed_eq_placedNat 1, placed_eq_placedNat 8, placed_eq_placedNat 12, placed_eq_placedNat 16,
    placed_eq_placedNat 0 w.base, placed_eq_placedNat 32, placed_eq_placedNat 0 w.translationBase]
  exact ⟨rfl, rfl, rfl, rfl⟩

/-- A group record's words (R205). -/
theorem Group.word_eq (g : Group) :
    g.word 0 = placedBit 0 g.valid ||| placedNat 4 g.memberCount.toNat ||| placedNat 8 g.granuleCode.toNat |||
      placedBit 12 g.compaction ∧
    g.word 1 = placedNat 0 g.member0.toNat ||| placedNat 8 g.member1.toNat ||| placedNat 16 g.member2.toNat |||
      placedNat 24 g.member3.toNat := by
  unfold Group.word
  dsimp only
  rw [placed_eq_placedNat 4, placed_eq_placedNat 8 g.granuleCode, placed_eq_placedNat 0, placed_eq_placedNat 8 g.member1,
    placed_eq_placedNat 16, placed_eq_placedNat 24]
  exact ⟨rfl, rfl⟩

/-- Settles O44: the map, the words block by block, and the bank records read back. -/
theorem apertureShowsTheState : Obligations.ApertureShowsTheState := by
  unfold Obligations.ApertureShowsTheState
  intro put flag
  refine ⟨regAt_words, regAt_portRecord, regAt_faultClass, regAt_pendingItem, regAt_window, regAt_group, regAt_ortEntry,
    State.liveWord_registers, State.liveWord_portRecord, State.liveWord_ortEntry, State.liveWord_faults,
    State.liveWord_notifier, fun s => ?_, Window.withWord_word, Group.withWord_word⟩
  intro window0 shows showsGroup
  exact ⟨fun n => ⟨(s.banks.active.windows[n]).word_eq, (s.banks.staging.windows[n]).word_eq⟩,
    fun n => ⟨(s.banks.active.groups[n]).word_eq, (s.banks.staging.groups[n]).word_eq⟩⟩

end Sys2Proof.Machine
